-- ==== Sys2Proof/Word.lean ====
section
/-! DEFINITION. The word types of the KB8 (00_scope 5.1, R190): a word is 32 bits, a serial 48, a die address at most 16. -/

namespace Sys2Proof

/-- A 32-bit word of DAL data, of a claim word, of key material or of an ident (00_scope 5.1). -/
abbrev Word := BitVec 32

/-- One byte of a frame, of a record or of the lot image (R190). -/
abbrev Byte := BitVec 8

/-- A key's 48-bit serial (00_scope 5.1). -/
abbrev Serial := BitVec 48

/-- A DAL address field, or the die address taken from it (R3). -/
abbrev Address := BitVec 16

/-- A probe site, and the lane of the same number (00_scope 5.2). -/
abbrev Site := Fin 8

/-- One value for each of the eight sites or lanes. -/
abbrev PerSite (α : Type) := Vector α 8

/-- A set of sites, one flag per site. -/
abbrev SiteSet := Vector Bool 8

/-- A key: 8 words, offsets 0 to 7 (00_scope 5.1). -/
abbrev KeyWords := Vector Word 8

/-- An expected check: 2 words (00_scope 5.1). -/
abbrev CheckWords := Vector Word 2

end Sys2Proof
end

