-- ==== Sys2Proof/Syntax.lean ====
section
/-! DEFINITION. The commands of the KB8: one constructor per row of spec/opcode_table.json, each an event that reaches
the part, with the data the event carries. -/

namespace Sys2Proof

/-- The five tallies (R184), in the order of the claim words 10 to 14. -/
inductive Tally where
  | fetched | rejected | committed | spoiled | blanked
  deriving DecidableEq, Repr

/-- The reel's answer to IMAGE (R47, R192): 128 bytes, with the result of the tag check that the supply engine makes
with the factory reel key (assumption log 6), or ABSENT. -/
inductive ImageAnswer where
  | image (bytes : Vector Byte 128) (tagPasses : Bool)
  | absent
  deriving DecidableEq, Repr

/-- The reel's answer to FETCH (R48, R192): a key record of 62 bytes, or END. -/
inductive FetchAnswer where
  | record (bytes : Vector Byte 62)
  | endOfReel
  deriving DecidableEq, Repr

/-- What the unwrap unit finds (R54): the tag fails and nothing is decrypted, or it passes and the record decrypts to
a key and an expected check. The cipher is not the manual's, so the result comes with the event (assumption log 6). -/
inductive UnwrapResult where
  | tagFails
  | tagPasses (key : KeyWords) (check : CheckWords)
  deriving DecidableEq, Repr

/-- Bytes from the reel (R46): whether they fall inside the transfer of the operation on the port, and what the tag check
would find should they be an image (assumption logs 6 and 23). -/
structure ReelBytes where
  bytes : List Byte
  inTransfer : Bool
  tagPasses : Bool
  deriving DecidableEq, Repr

/-- The commands. Claim window rows name the lane that carries the access (R6, R171). Site, kind and page arguments are
the raw fields of the written word, so that a value outside its range is a command that is refused (R174, R177). -/
inductive Instr where
  /-- DAL_REQUEST (R4): the bytes of the request's frame (R191): byte 0, bytes 1 and 2, and those after them. -/
  | dalRequest (lane : Site) (kindByte : Byte) (address : Vector Byte 2) (data : List Byte)
  /-- DIE_RESPONSE (R13): the bytes of the die's frame (R191): byte 0, and those after it. -/
  | dieResponse (lane : Site) (statusByte : Byte) (data : List Byte)
  /-- RESPONSE_TIMER_EXPIRY (R14). -/
  | responseTimerExpiry (lane : Site)
  /-- QUIET_TIMER_EXPIRY (R15). -/
  | quietTimerExpiry (lane : Site)
  /-- TICK (R111). -/
  | tick
  /-- CONTACT_RISE (R115). -/
  | contactRise (site : Site)
  /-- CONTACT_DEBOUNCE_COMPLETE (R115). -/
  | contactDebounceComplete (site : Site)
  /-- CONTACT_FALL (R115). -/
  | contactFall (site : Site)
  /-- KEY_WAIT_EXPIRY (R118). -/
  | keyWaitExpiry (site : Site)
  /-- DWELL_EXPIRY (R121). -/
  | dwellExpiry (site : Site)
  /-- PROGRAM_WATCHDOG_EXPIRY (R124). -/
  | programWatchdogExpiry (site : Site)
  /-- REEL_PRESENT_RISE (R50). -/
  | reelPresentRise
  /-- REEL_DEBOUNCE_END (R50). -/
  | reelDebounceEnd
  /-- REEL_PRESENT_FALL (R50). -/
  | reelPresentFall
  /-- IMAGE_ANSWER (R31). -/
  | imageAnswer (answer : ImageAnswer)
  /-- FETCH_START (R52). -/
  | fetchStart
  /-- FETCH_ANSWER (R53). -/
  | fetchAnswer (answer : FetchAnswer)
  /-- UNWRAP_COMPLETION (R54). -/
  | unwrapCompletion (result : UnwrapResult)
  /-- APPEND_START (R60). -/
  | appendStart
  /-- APPEND_OK (R60). -/
  | appendOk
  /-- APPEND_FAIL (R61). -/
  | appendFail
  /-- APPEND_FULL (R62). -/
  | appendFull
  /-- REEL_SILENT (R46). -/
  | reelSilent
  /-- DISCARDED_REEL_ANSWER (R46): bytes from the reel, whether they arrive within the transfer of the operation on the
  port, and the result of the tag check should they be an image (assumption log 23). -/
  | discardedReelAnswer (answer : ReelBytes)
  /-- UNUSED_SPOIL (R37). -/
  | unusedSpoil
  /-- CLOSE_RECORD (R38). -/
  | closeRecord
  /-- LOAD (R29). -/
  | load (lane : Site)
  /-- CLOSE (R35). -/
  | close (lane : Site)
  /-- RELEASE (R103). -/
  | release (lane : Site) (siteArg : Byte)
  /-- LOWEST (R76). -/
  | lowest (lane : Site) (siteArg : Byte)
  /-- MASK (R134): `on` sets the kind MASKED, off sets it STRICT. -/
  | mask (lane : Site) (kindArg : Byte) (on : Bool)
  /-- CLEAR_CHECKED (R138). -/
  | clearChecked (lane : Site) (siteArg : Byte)
  /-- CLEAR_UNCHECKED (R139). -/
  | clearUnchecked (lane : Site) (siteArg : Byte)
  /-- ALERT_TAKE (R161). -/
  | alertTake (lane : Site)
  /-- ALERT_END_NON_SPECIFIC (R163). -/
  | alertEndNonSpecific (lane : Site)
  /-- ALERT_END_SPECIFIC (R164): the source by its priority number. -/
  | alertEndSpecific (lane : Site) (source : BitVec 3)
  /-- ALERT_MASK (R159): the word written. -/
  | alertMask (lane : Site) (data : Word)
  /-- EXCEPTION_MASK (R135): the word written. -/
  | exceptionMask (lane : Site) (data : Word)
  /-- VIEW_SELECT (R177). -/
  | viewSelect (lane : Site) (page : BitVec 4) (index : Byte)
  /-- VIEW_DATA (R178). -/
  | viewData (lane : Site)
  /-- TALLY_LATCH (R182). -/
  | tallyLatch (lane : Site)
  /-- TALLY (R183). -/
  | tally (lane : Site) (which : Tally)
  /-- CLAIM_WORD_WRITE (R171): a WRITE to a claim word. -/
  | claimWordWrite (lane : Site) (word : Fin 16) (data : Word)
  /-- POWER_ON (R22). -/
  | powerOn
  /-- RESET_LINE (R22). -/
  | resetLine
  deriving DecidableEq, Repr

end Sys2Proof
end

