-- ==== Sys2Proof/Decode.lean ====
section
/-! DEFINITION. The table of commands gives no row any bits (spec/opcode_table.json: every "fields" list is empty), so
no word spells a command. -/

namespace Sys2Proof

/-- The command that a word of `nbits` bits spells by the table's bits: none, for every word (assumption log 19). -/
def decodeTableWord (_nbits _w : Nat) : Option Instr := none

end Sys2Proof
end

