-- ==== Sys2Proof/Config.lean ====
section
/-! DEFINITION. What the manual does not give: the cryptography under the factory reel key, and the bytes that a frame
shorter than its packing does not have. -/

namespace Sys2Proof

/-- The 16-byte tag of a log record as a function of its 32-byte body (R143, R192): computed with the factory reel
key, which the manual does not cover. A free value: no body, nothing can be proved of the tag but that equal bodies
have equal tags (assumption log 7; DESIGN CHOICE, safe). -/
opaque Config.recordTag : List Byte → BitVec 128

/-- What the lane reads for byte i of a frame that ends before it. R191 gives every frame its length, so no frame of a DAL
partner has such a byte (`Instr.wellFormed`). A free value (assumption log 24; DESIGN CHOICE, safe). -/
opaque Config.absentByte : List Byte → Nat → Byte

end Sys2Proof
end

