-- ==== Sys2Proof/Machine/State.lean ====
section
/-! DEFINITION. The state of the KB8: every item the manual's blocks own (00_scope 3), as plain data, with its value
after reset. -/

namespace Sys2Proof.Machine

/-! ## Names -/

/-- DAL request kind (R1). -/
inductive Kind where
  | read | write
  deriving DecidableEq, Repr

/-- DAL response status (R1). -/
inductive Status where
  | ok | nak | refused | timeout | busy | parity | detached | retry
  deriving DecidableEq, Repr

/-- Lot state (R21). -/
inductive LotState where
  | unloaded | loading | opened | draining | closed | halted
  deriving DecidableEq, Repr

/-- Halt cause (R21, R41). -/
inductive HaltCause where
  | none | appendFail | logSpace | reelLost | reelSilent
  deriving DecidableEq, Repr

/-- Load error (R21, R31). -/
inductive LoadError where
  | none | tag | format | reel | absent
  deriving DecidableEq, Repr

/-- Reset cause (R21). -/
inductive ResetCause where
  | power | line
  deriving DecidableEq, Repr

/-- Window role (R25). -/
inductive Role where
  | none | ident | stage | arm | status | check | claim | guard
  deriving DecidableEq, Repr

/-- The request kinds a GUARD entry covers (R25). -/
inductive Access where
  | read | write | both
  deriving DecidableEq, Repr

/-- Address check mode (R3). -/
inductive CheckMode where
  | none | even | odd
  deriving DecidableEq, Repr

/-- Lane state (R2). -/
inductive LaneState where
  | idle | outbound | held | quarantine
  deriving DecidableEq, Repr

/-- Site state (R82). -/
inductive SiteState where
  | vacant | ready | staging | blanked | armed | programmed | finished | fault
  deriving DecidableEq, Repr

/-- Spoil reason (R101, R37). -/
inductive SpoilReason where
  | lift | dwell | release | burn | stall | mismatch | unused
  deriving DecidableEq, Repr

/-- Reject reason (R55). -/
inductive RejectReason where
  | tag | order
  deriving DecidableEq, Repr

/-- Last outcome of a site (R110). -/
inductive LastOutcome where
  | none | commit | spoil (reason : SpoilReason) | blank | returned
  deriving DecidableEq, Repr

/-- Exception kind (R128). -/
inductive ExcKind where
  | keyless | guard | order | parity | timeout | late | overlap
  deriving DecidableEq, Repr

/-- Alert source (R156), highest priority first. -/
inductive Source where
  | halt | stall | mismatch | siteException | loss | logFull | poolLow | lot
  deriving DecidableEq, Repr

/-- Reel port state (R44). -/
inductive PortState where
  | free | image | fetch | append
  deriving DecidableEq, Repr

/-- Stage of the draw (R44). -/
inductive DrawStage where
  | transfer | unwrap
  deriving DecidableEq, Repr

/-- Reel debouncer (R50). -/
inductive ReelDebouncer where
  | absent | settling | present
  deriving DecidableEq, Repr

/-! ## Lot image (R23, R25) -/

/-- One window table entry (R25). -/
structure WindowEntry where
  role : Role
  base : Address
  length : Nat
  access : Option Access
  deriving DecidableEq, Repr

/-- The lot parameters and the window table (R23). `tickCode` is the tick period's code (R190: 0 is 1 µs, 7 is 200 µs). -/
structure LotImage where
  lotId : Word
  arm : Word
  statusMask : Word
  busy : Word
  done : Word
  fail : Word
  ceiling : Nat
  tickCode : Nat
  responseLimit : Nat
  keyWaitLimit : Nat
  debounce : Nat
  dwellLimit : Nat
  watchdogLimit : Nat
  checkMode : CheckMode
  retryLimit : Nat
  refillLevel : Nat
  lowLevel : Nat
  identRequired : Bool
  autoEnd : Bool
  /-- bit k: kind k starts MASKED -/
  excMask : Vector Bool 7
  /-- bit n: source n starts MASKED -/
  alertMask : Vector Bool 8
  table : Vector WindowEntry 16
  deriving DecidableEq, Repr

/-! ## Blocks -/

/-- Lot controller (R21). -/
structure LotController where
  state : LotState
  image : Option LotImage
  haltCause : HaltCause
  loadError : LoadError
  resetCause : ResetCause
  closeQueued : Bool
  deriving DecidableEq, Repr

/-- A key record of the reel (R48). -/
structure KeyRecord where
  serial : Serial
  wrappedCheck : BitVec 64
  wrappedKey : BitVec 256
  tag : BitVec 128
  deriving DecidableEq, Repr

/-- Supply engine (R44). `timerRunning` is the reel response timer (its 100 ms are real time), `unwrap` the unwrap
unit (absent is IDLE), `page` the sequence numbers of the records named in the APPEND on the port. -/
structure Supply where
  port : PortState
  timerRunning : Bool
  draw : Option DrawStage
  fetchReservation : Bool
  unwrap : Option KeyRecord
  page : Option (List Word)
  appendFailures : Nat
  exhausted : Bool
  debouncer : ReelDebouncer
  deriving DecidableEq, Repr

/-- A key entry of the pool (R64). -/
structure KeyEntry where
  serial : Serial
  key : KeyWords
  check : CheckWords
  deriving DecidableEq, Repr

/-- Key pool (R64). The head of `deque` is the front, the head of `ring` the highest place. -/
structure Pool where
  deque : List KeyEntry
  waiting : SiteSet
  ring : List Site
  highest : Option Serial
  deriving DecidableEq, Repr

/-- A key binding (R81). -/
structure Binding where
  serial : Serial
  key : KeyWords
  check : CheckWords
  stageSet : Vector Bool 8
  exposed : Bool
  inFlight : Option (Fin 8)
  deriving DecidableEq, Repr

/-- The ident words of a site, present or absent (R81). -/
abbrev Ident := Vector (Option Word) 4

/-- Site context record (R81). -/
structure SiteContext where
  state : SiteState
  ident : Ident
  binding : Option Binding
  attempts : Nat
  capture : Vector (Option Word) 2
  suspect : Bool
  lastOutcome : LastOutcome
  deriving DecidableEq, Repr

/-- A timer: stopped, or running with its count and the limit it was started with (R112). -/
inductive Timer where
  | stopped
  | running (count limit : Nat)
  deriving DecidableEq, Repr

/-- Contact debouncer (R114). -/
inductive Debouncer where
  | low
  | settling (count : Nat)
  | established
  deriving DecidableEq, Repr

/-- The debouncer and the three timers of a site (R112, R114). -/
structure SiteTimers where
  debouncer : Debouncer
  keyWait : Timer
  dwell : Timer
  watchdog : Timer
  deriving DecidableEq, Repr

/-- A lane's transaction record (R2). -/
structure Transaction where
  kind : Kind
  addressField : Address
  dieAddress : Address
  role : Role
  offset : Option Nat
  observed : Bool
  arm : Bool
  deriving DecidableEq, Repr

/-- Lane forwarder (R2). -/
structure Lane where
  state : LaneState
  timer : Timer
  transaction : Option Transaction
  deriving DecidableEq, Repr

/-- Exception unit (R128). Bit k of a set is kind k; a set flag of `mask` is MASKED. -/
structure ExceptionUnit where
  sticky : PerSite (Vector Bool 7)
  mask : Vector Bool 7
  deriving DecidableEq, Repr

/-- The five tallies (R184). -/
structure Tallies where
  fetched : Nat
  rejected : Nat
  committed : Nat
  spoiled : Nat
  blanked : Nat
  deriving DecidableEq, Repr

/-- The fields of a log record, by kind (R145). -/
inductive RecordBody where
  | opened (lotId : Word)
  | commit (site : Site) (serial : Serial) (ident : Ident) (attempts : Nat)
  | spoil (site : Option Site) (serial : Serial) (reason : SpoilReason) (ident : Ident) (suspect : Bool)
  | blank (site : Site) (ident : Ident)
  | reject (serial : Serial) (reason : RejectReason)
  | closed (tallies : Tallies)
  deriving DecidableEq, Repr

/-- A log record (R145): its sequence number and its kind's fields. The tag is `Config.recordTag` of its body. -/
structure LogRecord where
  seq : Word
  body : RecordBody
  deriving DecidableEq, Repr

/-- Commit log (R141), oldest record first. -/
structure CommitLog where
  records : List LogRecord
  reservations : Nat
  nextSeq : Word
  deriving DecidableEq, Repr

/-- The site sets of the four sources that have one (R156). -/
structure SiteSets where
  stall : SiteSet
  mismatch : SiteSet
  siteException : SiteSet
  loss : SiteSet
  deriving DecidableEq, Repr

/-- Alert controller (R156). A set flag of `mask` is MASKED; `inService` is in the order taken. -/
structure AlertController where
  latch : Vector Bool 8
  siteSets : SiteSets
  mask : Vector Bool 8
  inService : List Source
  autoEnd : Bool
  deriving DecidableEq, Repr

/-- A view page (R176). -/
inductive ViewPage where
  | site (n : Site) | pool | log | table | lot
  deriving DecidableEq, Repr

/-- A lane's view pointer (R176). -/
structure ViewPointer where
  page : ViewPage
  index : Nat
  deriving DecidableEq, Repr

/-- A latched tally value (R182). -/
structure LatchedValue where
  value : Nat
  pending : Bool
  deriving DecidableEq, Repr

/-- A tally latch that is not empty (R182). -/
structure TallyLatch where
  fetched : LatchedValue
  rejected : LatchedValue
  committed : LatchedValue
  spoiled : LatchedValue
  blanked : LatchedValue
  deriving DecidableEq, Repr

/-! ## What leaves the part -/

/-- A response sent upstream (R1). -/
structure Response where
  status : Status
  data : Option Word
  deriving DecidableEq, Repr

/-- A request sent downstream (R12). -/
structure Request where
  kind : Kind
  address : Address
  data : Option Word
  deriving DecidableEq, Repr

/-- A command to the reel (R46, R192). -/
inductive ReelCommand where
  | image
  | fetch
  | append (page : List LogRecord)
  deriving DecidableEq, Repr

/-- An answer that is listed for the command on the port (R47 to R49, R192). -/
inductive ReelAnswer where
  | image (bytes : Vector Byte 128)
  | absent
  | record (bytes : Vector Byte 62)
  | endOfReel
  | appendOk
  | appendFail
  | appendFull
  deriving DecidableEq, Repr

/-- One thing the part has put on a port. -/
inductive Sent where
  | upstream (lane : Site) (response : Response)
  | downstream (lane : Site) (request : Request)
  | reel (command : ReelCommand)
  deriving DecidableEq, Repr

/-! ## The whole state -/

/-- The part (00_scope 3). `sent` and `pending` are the model's own: what has left the part since reset, in order
(assumption log 10), and the commands not yet taken, first in first out. -/
structure State where
  lot : LotController
  supply : Supply
  pool : Pool
  sites : PerSite SiteContext
  timers : PerSite SiteTimers
  lanes : PerSite Lane
  exc : ExceptionUnit
  log : CommitLog
  alert : AlertController
  tallies : Tallies
  pointers : PerSite ViewPointer
  latches : PerSite (Option TallyLatch)
  sent : List Sent
  pending : List Instr
  deriving DecidableEq, Repr

/-- No command ends in a fault: the manual gives every event an effect, an answer or a discard. -/
inductive Fault where
  deriving DecidableEq, Repr

/-- Reasons to refuse a command. -/
inductive Refusal where
  /-- Raised by `exec` for a command that has no meaning yet; none is left. Safe: the machine stops. -/
  | notModelled (mnemonic : String)
  deriving DecidableEq, Repr

/-! ## Defaults -/

/-- The empty set of sites. -/
def SiteSet.empty : SiteSet := Vector.replicate 8 false

/-- An idle lane (R2): no transaction, timer stopped. -/
def Lane.idle : Lane := ⟨.idle, .stopped, none⟩

/-- The Default site context (R81). -/
def SiteContext.default : SiteContext :=
  ⟨.vacant, Vector.replicate 4 none, none, 0, Vector.replicate 2 none, false, .none⟩

/-- No ident word present. -/
def Ident.absent : Ident := Vector.replicate 4 none

/-- The five tallies at zero (R184). -/
def Tallies.zero : Tallies := ⟨0, 0, 0, 0, 0⟩

/-- The machine right after power-on, with every Default of the manual. The input lines are taken low: no die under
the probes and no reel (assumption log 11; DESIGN CHOICE, unsafe). -/
def State.reset : State where
  lot := ⟨.unloaded, none, .none, .none, .power, false⟩
  supply := ⟨.free, false, none, false, none, none, 0, false, .absent⟩
  pool := ⟨[], SiteSet.empty, [0, 1, 2, 3, 4, 5, 6, 7], none⟩
  sites := Vector.replicate 8 SiteContext.default
  timers := Vector.replicate 8 ⟨.low, .stopped, .stopped, .stopped⟩
  lanes := Vector.replicate 8 Lane.idle
  exc := ⟨Vector.replicate 8 (Vector.replicate 7 false), Vector.replicate 7 true⟩
  log := ⟨[], 0, 1⟩
  alert := ⟨Vector.replicate 8 false, ⟨SiteSet.empty, SiteSet.empty, SiteSet.empty, SiteSet.empty⟩,
    Vector.replicate 8 false, [], false⟩
  tallies := Tallies.zero
  pointers := Vector.replicate 8 ⟨.lot, 0⟩
  latches := Vector.replicate 8 none
  sent := []
  pending := []

end Sys2Proof.Machine
end

