-- ==== Sys2Proof/Machine/Formats.lean ====
section
/-! DEFINITION. Codes, frames, reel bytes and the lot image (12_formats, R190 to R192), with the lot image's load
validation (R26). -/

namespace Sys2Proof.Machine

/-! ## Bytes and words (R190: most significant byte first) -/

/-- The low `n` bytes of a number, most significant first. -/
def bytesOfNat : Nat → Nat → List Byte
  | 0, _ => []
  | n + 1, v => BitVec.ofNat 8 (v / 256 ^ n) :: bytesOfNat n v

/-- The number that bytes spell, most significant first. -/
def natOfBytes (bs : List Byte) : Nat := bs.foldl (fun a b => a * 256 + b.toNat) 0

/-- Bits `hi` down to `lo` of a word, as a number. -/
def field (w : Word) (hi lo : Nat) : Nat := w.toNat / 2 ^ lo % 2 ^ (hi + 1 - lo)

/-- A number placed at bit `lo` of a word. -/
def place (v lo : Nat) : Word := BitVec.ofNat 32 (v * 2 ^ lo)

/-- A flag as a number. -/
def bit (b : Bool) : Nat := if b then 1 else 0

/-- Flags as a number: flag k is bit k. -/
def flagsToNat : List Bool → Nat
  | [] => 0
  | b :: bs => bit b + 2 * flagsToNat bs

/-- The high word of a serial split across two words (R190). -/
def serialHigh (s : Serial) : Word := BitVec.ofNat 32 (s.toNat / 2 ^ 32)

/-- The low word of a serial split across two words (R190). -/
def serialLow (s : Serial) : Word := BitVec.ofNat 32 s.toNat

/-! ## Codes (R190) -/

def Status.code : Status → Nat
  | .ok => 0 | .nak => 1 | .refused => 2 | .timeout => 3
  | .busy => 4 | .parity => 5 | .detached => 6 | .retry => 7

def LotState.code : LotState → Nat
  | .unloaded => 0 | .loading => 1 | .opened => 2 | .draining => 3 | .closed => 4 | .halted => 5

def HaltCause.code : HaltCause → Nat
  | .none => 0 | .appendFail => 1 | .logSpace => 2 | .reelLost => 3 | .reelSilent => 4

def LoadError.code : LoadError → Nat
  | .none => 0 | .tag => 1 | .format => 2 | .reel => 3 | .absent => 4

def ResetCause.code : ResetCause → Nat
  | .power => 0 | .line => 1

/-- Site state codes; READY-WAITING, 2, is the code of a READY site in the waiting set (R173). -/
def SiteState.code (waiting : Bool) : SiteState → Nat
  | .vacant => 0 | .ready => if waiting then 2 else 1 | .staging => 3 | .blanked => 4
  | .armed => 5 | .programmed => 6 | .finished => 7 | .fault => 8

def LaneState.code : LaneState → Nat
  | .idle => 0 | .outbound => 1 | .held => 2 | .quarantine => 3

def SpoilReason.code : SpoilReason → Nat
  | .lift => 1 | .dwell => 2 | .release => 3 | .burn => 4 | .stall => 5 | .mismatch => 6 | .unused => 7

def RejectReason.code : RejectReason → Nat
  | .tag => 1 | .order => 2

def LastOutcome.code : LastOutcome → Nat
  | .none => 0 | .commit => 1 | .spoil _ => 2 | .blank => 3 | .returned => 4

/-- The spoil reason shown beside a last outcome: 0 where it is no SPOIL (R193). -/
def LastOutcome.reasonCode : LastOutcome → Nat
  | .spoil r => r.code
  | .none | .commit | .blank | .returned => 0

def Role.code : Role → Nat
  | .none => 0 | .ident => 1 | .stage => 2 | .arm => 3 | .status => 4 | .check => 5 | .claim => 6 | .guard => 7

def Role.ofCode : Nat → Option Role
  | 0 => some .none | 1 => some .ident | 2 => some .stage | 3 => some .arm
  | 4 => some .status | 5 => some .check | 6 => some .claim | 7 => some .guard
  | _ => Option.none

def Access.code : Access → Nat
  | .read => 1 | .write => 2 | .both => 3

def Access.ofCode : Nat → Option Access
  | 1 => some .read | 2 => some .write | 3 => some .both
  | _ => none

def CheckMode.code : CheckMode → Nat
  | .none => 0 | .even => 1 | .odd => 2

def CheckMode.ofCode : Nat → Option CheckMode
  | 0 => some .none | 1 => some .even | 2 => some .odd
  | _ => Option.none

/-- The tick period in µs of a tick period code. -/
def tickMicros : Nat → Nat
  | 0 => 1 | 1 => 2 | 2 => 5 | 3 => 10 | 4 => 20 | 5 => 50 | 6 => 100 | _ => 200

/-- Exception kinds by code, which is also the bit of the kind in a set (R193). -/
def ExcKind.index : ExcKind → Fin 7
  | .keyless => 0 | .guard => 1 | .order => 2 | .parity => 3 | .timeout => 4 | .late => 5 | .overlap => 6

/-- The priority number of a source, which names it and is its bit in the alert mask (R156). -/
def Source.priority : Source → Fin 8
  | .halt => 0 | .stall => 1 | .mismatch => 2 | .siteException => 3
  | .loss => 4 | .logFull => 5 | .poolLow => 6 | .lot => 7

/-- The eight sources from highest to lowest priority (R156). -/
def Source.all : List Source :=
  [.halt, .stall, .mismatch, .siteException, .loss, .logFull, .poolLow, .lot]

/-- The source a priority number names (R164). -/
def Source.ofPriority (p : BitVec 3) : Source :=
  match p.toNat with
  | 0 => .halt | 1 => .stall | 2 => .mismatch | 3 => .siteException
  | 4 => .loss | 5 => .logFull | 6 => .poolLow | _ => .lot

/-! ## DAL frames (R191) -/

/-- The request kind: bit 0 of the kind byte; bits 7 to 1 are not read. -/
def Kind.ofByte (b : Byte) : Kind := if b.toNat % 2 = 0 then .read else .write

/-- The die's status: byte 0 is OK, any other NAK. -/
def dieStatus (b : Byte) : Status := if b = 0 then .ok else .nak

/-- The frame of an arriving request: the kind byte, the two address bytes, and what follows them. -/
def requestFrame (kindByte : Byte) (address : Vector Byte 2) (data : List Byte) : List Byte :=
  kindByte :: address.toList ++ data

/-- Byte i of an arriving frame; a byte that the frame does not have is a free value (assumption log 24). -/
def frameByte (frame : List Byte) (i : Nat) : Byte := frame[i]?.getD (Config.absentByte frame i)

/-- The number in `n` bytes of an arriving frame from byte `start` on. -/
def frameField (frame : List Byte) (start n : Nat) : Nat :=
  natOfBytes ((List.range n).map fun i => frameByte frame (start + i))

/-- An arriving request's kind, from byte 0. -/
def requestKind (frame : List Byte) : Kind := Kind.ofByte (frameByte frame 0)

/-- An arriving request's address field, bytes 1 and 2. -/
def requestAddress (frame : List Byte) : Address := BitVec.ofNat 16 (frameField frame 1 2)

/-- An arriving WRITE's data, bytes 3 to 6. A READ's frame ends before them. -/
def requestData (frame : List Byte) : Word := BitVec.ofNat 32 (frameField frame 3 4)

/-- An arriving response's status, from byte 0. -/
def responseStatus (frame : List Byte) : Status := dieStatus (frameByte frame 0)

/-- An arriving response's data, bytes 1 to 4, taken on a READ answered OK alone (R1). -/
def responseData (frame : List Byte) : Word := BitVec.ofNat 32 (frameField frame 1 4)

/-- The frame of a request. -/
def Request.bytes (r : Request) : List Byte :=
  match r.kind with
  | .read => 0 :: bytesOfNat 2 r.address.toNat
  | .write => 1 :: bytesOfNat 2 r.address.toNat ++ bytesOfNat 4 (r.data.getD 0).toNat

/-- The frame of a response: five bytes for a READ answered OK, one byte for any other. -/
def Response.bytes (r : Response) : List Byte :=
  match r.data with
  | some d => BitVec.ofNat 8 r.status.code :: bytesOfNat 4 d.toNat
  | none => [BitVec.ofNat 8 r.status.code]

/-! ## Log records (R192) -/

/-- Byte 7's ident bits, and the ident words of bytes 16 to 31 with an absent word 0. -/
def Ident.flags (i : Ident) : Nat := flagsToNat (i.toList.map Option.isSome)

def Ident.bytes (i : Ident) : List Byte := i.toList.flatMap fun w => bytesOfNat 4 (w.getD 0).toNat

/-- Bytes 4 to 31 of a record, by kind; every byte a kind does not use is 0. -/
def RecordBody.bytes : RecordBody → List Byte
  | .opened lotId => [1, 0xFF, 0, 0] ++ bytesOfNat 4 lotId.toNat ++ List.replicate 20 0
  | .commit site serial ident attempts =>
    [2, BitVec.ofNat 8 site.val, 0, BitVec.ofNat 8 (ident.flags + 32 * attempts)]
      ++ bytesOfNat 6 serial.toNat ++ [0, 0] ++ ident.bytes
  | .spoil site serial reason ident suspect =>
    [3, (site.map fun n => BitVec.ofNat 8 n.val).getD 0xFF, BitVec.ofNat 8 reason.code,
      BitVec.ofNat 8 (ident.flags + 16 * bit suspect)]
      ++ bytesOfNat 6 serial.toNat ++ [0, 0] ++ ident.bytes
  | .blank site ident =>
    [4, BitVec.ofNat 8 site.val, 0, BitVec.ofNat 8 ident.flags] ++ List.replicate 8 0 ++ ident.bytes
  | .reject serial reason =>
    [5, 0xFF, BitVec.ofNat 8 reason.code, 0] ++ bytesOfNat 6 serial.toNat ++ List.replicate 18 0
  | .closed t =>
    [6, 0xFF, 0, 0] ++ bytesOfNat 4 t.fetched ++ bytesOfNat 4 t.rejected ++ bytesOfNat 4 t.committed
      ++ bytesOfNat 4 t.spoiled ++ bytesOfNat 4 t.blanked ++ List.replicate 4 0

/-- The 32-byte body of a record. -/
def LogRecord.bodyBytes (r : LogRecord) : List Byte := bytesOfNat 4 r.seq.toNat ++ r.body.bytes

/-- The 16-byte tag of a record, over its body (R143; assumption log 7). -/
def LogRecord.tag (r : LogRecord) : BitVec 128 := Config.recordTag r.bodyBytes

/-- Word j, 0 to 11, of a record's 48 bytes (R193): words 0 to 7 are the body, words 8 to 11 the tag. -/
def LogRecord.word (r : LogRecord) (j : Nat) : Word :=
  if j < 8 then BitVec.ofNat 32 (natOfBytes ((r.bodyBytes.drop (4 * j)).take 4))
  else BitVec.ofNat 32 (r.tag.toNat / 2 ^ (32 * (11 - j)))

/-- The 48 bytes of a record. -/
def LogRecord.bytes (r : LogRecord) : List Byte := r.bodyBytes ++ bytesOfNat 16 r.tag.toNat

/-- Whether a record is the CLOSE record. -/
def LogRecord.isClose (r : LogRecord) : Bool :=
  match r.body with
  | .closed _ => true
  | .opened _ | .commit _ _ _ _ | .spoil _ _ _ _ _ | .blank _ _ | .reject _ _ => false

/-- The bytes of a command to the reel. -/
def ReelCommand.bytes : ReelCommand → List Byte
  | .image => [0x10]
  | .fetch => [0x11]
  | .append page => 0x12 :: BitVec.ofNat 8 page.length :: page.flatMap LogRecord.bytes

/-! ## Reel answers (R192) -/

/-- The bytes as a block of `n`, where there are as many. -/
def block (n : Nat) (bytes : List Byte) : Option (Vector Byte n) :=
  if h : bytes.length = n then some ⟨bytes.toArray, by simpa using h⟩ else none

/-- The answer that bytes are to the command on the port, by the answer byte and what follows it; none for an unlisted
answer, and at a FREE port. -/
def ReelAnswer.ofBytes (port : PortState) : List Byte → Option ReelAnswer
  | [] => none
  | code :: rest =>
    match port, code.toNat with
    | .image, 0x00 => (block 128 rest).map .image
    | .image, 0x01 => if rest.isEmpty then some .absent else none
    | .fetch, 0x00 => (block 62 rest).map .record
    | .fetch, 0x02 => if rest.isEmpty then some .endOfReel else none
    | .append, 0x00 => if rest.isEmpty then some .appendOk else none
    | .append, 0x03 => if rest.isEmpty then some .appendFail else none
    | .append, 0x04 => if rest.isEmpty then some .appendFull else none
    | _, _ => none

/-! ## Key record (R192) -/

/-- The number in bytes `from` on, `n` bytes. -/
def byteField (bs : List Byte) (start n : Nat) : Nat := natOfBytes ((bs.drop start).take n)

/-- The key record in its 62 bytes. -/
def KeyRecord.ofBytes (bs : Vector Byte 62) : KeyRecord where
  serial := BitVec.ofNat 48 (byteField bs.toList 0 6)
  wrappedCheck := BitVec.ofNat 64 (byteField bs.toList 6 8)
  wrappedKey := BitVec.ofNat 256 (byteField bs.toList 14 32)
  tag := BitVec.ofNat 128 (byteField bs.toList 46 16)

/-! ## Lot image (R23, R26, R192, R193) -/

/-- Word i of the image: bytes 4i to 4i+3. Words 0 to 11 are the LOT words, words 12 to 27 the table entries. -/
def imageWord (bs : List Byte) (i : Nat) : Word := BitVec.ofNat 32 (byteField bs (4 * i) 4)

/-- The length a role fixes (R25); GUARD is checked against its range instead. -/
def Role.fixedLength : Role → Nat
  | .none => 0 | .ident => 4 | .stage => 8 | .arm => 1 | .status => 1 | .check => 2 | .claim => 16 | .guard => 0

/-- The highest die address of a mode (R26, check 7). -/
def CheckMode.top : CheckMode → Nat
  | .none => 0xFFFF
  | .even | .odd => 0x7FFF

/-- A table entry word (R193): its role must name one (R26, check 2), its length must be its role's (check 6), a GUARD
needs an access (checks 2 and 6), and its range must end inside the die address space (check 7). A NONE entry is kept
as base 0, length 0, access absent (R25). -/
def WindowEntry.parse (mode : CheckMode) (w : Word) : Option WindowEntry :=
  match Role.ofCode (field w 31 28) with
  | none => none
  | some .none => some ⟨.none, 0, 0, none⟩
  | some .guard =>
    match Access.ofCode (field w 27 26) with
    | none => none
    | some a =>
      if 1 ≤ field w 24 16 ∧ field w 24 16 ≤ 256 ∧ field w 15 0 + field w 24 16 - 1 ≤ mode.top then
        some ⟨.guard, BitVec.ofNat 16 (field w 15 0), field w 24 16, some a⟩
      else none
  | some role =>
    if field w 24 16 = role.fixedLength ∧ field w 15 0 + field w 24 16 - 1 ≤ mode.top then
      some ⟨role, BitVec.ofNat 16 (field w 15 0), field w 24 16, none⟩
    else none

/-- The ranges of two entries share an address; an entry of role NONE covers none (R25). -/
def WindowEntry.overlaps (a b : WindowEntry) : Bool :=
  a.role != .none && b.role != .none &&
  (a.base.toNat < b.base.toNat + b.length && b.base.toNat < a.base.toNat + a.length)

/-- Two entries of one table may stand together (R26, checks 8 and 9): a CLAIM range meets no other entry, and the
five site roles meet one another only through a GUARD. -/
def WindowEntry.compatible (a b : WindowEntry) : Bool :=
  !a.overlaps b || (a.role != .claim && b.role != .claim && (a.role == .guard || b.role == .guard))

/-- Every pair of entries is compatible. -/
def tableCompatible : List WindowEntry → Bool
  | [] => true
  | e :: es => es.all (e.compatible ·) && tableCompatible es

/-- The counts of R26, checks 4 and 5. -/
def tableCounts (t : List WindowEntry) : Bool :=
  [Role.ident, .stage, .arm, .status, .check, .claim].all (fun r => t.countP (·.role == r) == 1) &&
  t.countP (·.role == .guard) ≤ 10

/-- The sixteen table entries, or none where a check of R26 on the table fails. -/
def parseTable (mode : CheckMode) (bs : List Byte) : Option (Vector WindowEntry 16) :=
  match (List.range 16).mapM (fun i => WindowEntry.parse mode (imageWord bs (12 + i))) with
  | none => none
  | some t =>
    if h : t.length = 16 then
      if tableCounts t && tableCompatible t then some ⟨t.toArray, by simpa using h⟩ else none
    else none

/-- Flags of a word from bit `lo` on. -/
def flagsAt (w : Word) (lo n : Nat) : Vector Bool n := Vector.ofFn fun i : Fin n => w.getLsbD (lo + i.val)

/-- The fields of the twelve LOT words (R193) beside a check mode and a table, before the range checks. -/
def imageFields (bs : List Byte) (mode : CheckMode) (table : Vector WindowEntry 16) : LotImage where
  lotId := imageWord bs 0
  arm := imageWord bs 1
  statusMask := imageWord bs 2
  busy := imageWord bs 3
  done := imageWord bs 4
  fail := imageWord bs 5
  ceiling := field (imageWord bs 6) 23 0
  tickCode := field (imageWord bs 7) 18 16
  responseLimit := field (imageWord bs 7) 9 0
  keyWaitLimit := field (imageWord bs 8) 25 16
  debounce := field (imageWord bs 8) 7 0
  dwellLimit := field (imageWord bs 9) 31 16
  watchdogLimit := field (imageWord bs 9) 15 0
  checkMode := mode
  retryLimit := field (imageWord bs 10) 6 4
  refillLevel := field (imageWord bs 10) 12 8
  lowLevel := field (imageWord bs 10) 20 16
  identRequired := (imageWord bs 10).getLsbD 24
  autoEnd := (imageWord bs 10).getLsbD 25
  excMask := flagsAt (imageWord bs 11) 0 7
  alertMask := flagsAt (imageWord bs 11) 8 8
  table := table

/-- R26, checks 1 and 3, on the fields whose bits can hold a value outside their range. -/
def LotImage.inRange (i : LotImage) : Bool :=
  1 ≤ i.responseLimit && 1 ≤ i.dwellLimit && 1 ≤ i.watchdogLimit && 1 ≤ i.debounce && 1 ≤ i.ceiling &&
  1 ≤ i.retryLimit && i.retryLimit ≤ 4 &&
  i.busy != i.done && i.busy != i.fail && i.done != i.fail

/-- The lot image that passes load validation (R26), or none: load error FORMAT. -/
def parseImage (bytes : Vector Byte 128) : Option LotImage :=
  match CheckMode.ofCode (field (imageWord bytes.toList 10) 1 0) with
  | none => none
  | some mode =>
    match parseTable mode bytes.toList with
    | none => none
    | some table =>
      if (imageFields bytes.toList mode table).inRange then some (imageFields bytes.toList mode table) else none

/-- What the LOT and TABLE pages show while no image is held (R21): every parameter 0, every entry of role NONE. -/
def LotImage.blank : LotImage where
  lotId := 0
  arm := 0
  statusMask := 0
  busy := 0
  done := 0
  fail := 0
  ceiling := 0
  tickCode := 0
  responseLimit := 0
  keyWaitLimit := 0
  debounce := 0
  dwellLimit := 0
  watchdogLimit := 0
  checkMode := .none
  retryLimit := 0
  refillLevel := 0
  lowLevel := 0
  identRequired := false
  autoEnd := false
  excMask := Vector.replicate 7 false
  alertMask := Vector.replicate 8 false
  table := Vector.replicate 16 ⟨.none, 0, 0, none⟩

/-- A table entry as its word (R193). -/
def WindowEntry.word (e : WindowEntry) : Word :=
  place e.role.code 28 ||| place ((e.access.map Access.code).getD 0) 26 ||| place e.length 16 ||| place e.base.toNat 0

/-- LOT word i, 0 to 11 (R181, R193). -/
def LotImage.word (im : LotImage) : Nat → Word
  | 0 => im.lotId
  | 1 => im.arm
  | 2 => im.statusMask
  | 3 => im.busy
  | 4 => im.done
  | 5 => im.fail
  | 6 => place im.ceiling 0
  | 7 => place im.tickCode 16 ||| place im.responseLimit 0
  | 8 => place im.keyWaitLimit 16 ||| place im.debounce 0
  | 9 => place im.dwellLimit 16 ||| place im.watchdogLimit 0
  | 10 => place im.checkMode.code 0 ||| place im.retryLimit 4 ||| place im.refillLevel 8 ||| place im.lowLevel 16
      ||| place (bit im.identRequired) 24 ||| place (bit im.autoEnd) 25
  | 11 => place (flagsToNat im.excMask.toList) 0 ||| place (flagsToNat im.alertMask.toList) 8
  | _ => 0

end Sys2Proof.Machine
end

