-- ==== Sys2Proof/Machine/Operands.lean ====
section
/-! DEFINITION. How a command's operands are read: the parameters in force, the address check, the claim window, the
window match, and the arguments of claim-word writes. -/

namespace Sys2Proof.Machine

/-! ## Parameters in force (R24) -/

/-- The lot states in which the held image is in force (R24). -/
def LotState.imageInForce : LotState → Bool
  | .unloaded | .loading => false
  | .opened | .draining | .closed | .halted => true

/-- The held image, or the all-zero one the pages show while none is held (R21). -/
def State.image (s : State) : LotImage := s.lot.image.getD LotImage.blank

/-- The response limit in force: the image's, or the boot limit of 100 ticks (R12, R24). -/
def State.responseLimit (s : State) : Nat :=
  if s.lot.state.imageInForce then s.image.responseLimit else 100

/-- The contact debounce in force: the image's, or the boot debounce of 10 ticks (R24, R115). -/
def State.debounce (s : State) : Nat :=
  if s.lot.state.imageInForce then s.image.debounce else 10

/-- The tick period in force, in µs: the image's, or the boot period of 10 µs (R24, R111). -/
def State.tickPeriod (s : State) : Nat :=
  if s.lot.state.imageInForce then tickMicros s.image.tickCode else 10

/-- The address check mode in force (R3). -/
def State.checkMode (s : State) : CheckMode :=
  if s.lot.state.imageInForce then s.image.checkMode else .none

/-! ## Address check (R3) -/

/-- The number of ones in an address field. -/
def ones (a : Address) : Nat := (List.range 16).countP (a.getLsbD ·)

/-- The address check of a mode. -/
def CheckMode.passes (m : CheckMode) (a : Address) : Bool :=
  match m with
  | .none => true
  | .even => ones a % 2 == 0
  | .odd => ones a % 2 == 1

/-- The die address: all 16 bits in NONE mode, the low 15 bits in EVEN and ODD. -/
def CheckMode.dieAddress (m : CheckMode) (a : Address) : Address :=
  match m with
  | .none => a
  | .even | .odd => a &&& 0x7FFF

/-! ## Claim window (R6, R170) -/

/-- The base of the claim window in force: 0xFFF0 without an image in force, else the CLAIM entry's base. -/
def State.claimBase (s : State) : Option Nat :=
  if s.lot.state.imageInForce then
    (s.image.table.toList.find? (·.role == .claim)).map (·.base.toNat)
  else some 0xFFF0

/-- The claim word a die address names, where it lies in the claim window in force. -/
def State.claimWord (s : State) (a : Address) : Option (Fin 16) :=
  match s.claimBase with
  | none => none
  | some base => if base ≤ a.toNat ∧ a.toNat < base + 16 then some (Fin.ofNat 16 (a.toNat - base)) else none

/-! ## Window match (R9) -/

/-- A GUARD entry's access covers a request kind. -/
def Access.covers : Access → Kind → Bool
  | .read, .read => true
  | .read, .write => false
  | .write, .read => false
  | .write, .write => true
  | .both, _ => true

/-- The entry contains the die address, and where it is a GUARD its access covers the kind. -/
def WindowEntry.isMatch (e : WindowEntry) (k : Kind) (a : Address) : Bool :=
  e.role != .none && (e.base.toNat ≤ a.toNat && a.toNat < e.base.toNat + e.length) &&
  (e.role != .guard || (e.access.map (·.covers k)).getD false)

/-- The lowest-index matching entry's role and the offset in it; role NONE without an offset where none matches. -/
def State.window (s : State) (k : Kind) (a : Address) : Role × Option Nat :=
  match s.image.table.toList.find? (·.isMatch k a) with
  | some e => (e.role, some (a.toNat - e.base.toNat))
  | none => (.none, none)

/-! ## Arguments of claim-word writes (R174, R177, R193) -/

/-- A site argument, 0 to 7. -/
def siteArg (b : Byte) : Option Site := if h : b.toNat < 8 then some ⟨b.toNat, h⟩ else none

/-- An exception kind argument, 0 to 6. -/
def kindArg (b : Byte) : Option ExcKind :=
  match b.toNat with
  | 0 => some .keyless | 1 => some .guard | 2 => some .order | 3 => some .parity
  | 4 => some .timeout | 5 => some .late | 6 => some .overlap | _ => none

/-- A page code: SITE 0 to 7, POOL 8, LOG 9, TABLE 10, LOT 11. -/
def pageArg (p : BitVec 4) : Option ViewPage :=
  if h : p.toNat < 8 then some (.site ⟨p.toNat, h⟩)
  else match p.toNat with
    | 8 => some .pool | 9 => some .log | 10 => some .table | 11 => some .lot | _ => none

/-- The code of a page. -/
def ViewPage.code : ViewPage → Nat
  | .site n => n.val | .pool => 8 | .log => 9 | .table => 10 | .lot => 11

/-- The length of a page in words (R176). -/
def ViewPage.length : ViewPage → Nat
  | .site _ => 8 | .pool => 8 | .log => 194 | .table => 16 | .lot => 12

end Sys2Proof.Machine
end

