-- ==== Sys2Proof/Machine/Flags.lean ====
section
/-! DEFINITION. The flags the blocks report through: alert events and conditions (09), sticky exceptions (07), tallies
(11) and timers as counts (R112). -/

namespace Sys2Proof.Machine

/-! ## Timers (R112) -/

/-- A tick at a timer: a running one adds 1 to its count. -/
def Timer.count : Timer → Timer
  | .stopped => .stopped
  | .running c l => .running (c + 1) l

/-- The count has reached the limit. -/
def Timer.reached : Timer → Bool
  | .stopped => false
  | .running c l => l ≤ c

/-- The next tick brings the count to the limit. -/
def Timer.lastTick (t : Timer) : Bool := t.count.reached

/-- A running timer stopped and started again with another limit (R20); a stopped one stays stopped. -/
def Timer.restart (limit : Nat) : Timer → Timer
  | .stopped => .stopped
  | .running _ _ => .running 0 limit

/-- The limit a timer was started with; 0 for a stopped one. -/
def Timer.limit : Timer → Nat
  | .stopped => 0
  | .running _ l => l

/-- A tick at a contact debouncer: a settling one adds 1 to its count (R114, R115). -/
def Debouncer.count : Debouncer → Debouncer
  | .low => .low
  | .settling c => .settling (c + 1)
  | .established => .established

/-- A settling debouncer has counted the debounce. -/
def Debouncer.reached (limit : Nat) : Debouncer → Bool
  | .settling c => limit ≤ c
  | .low | .established => false

/-- A settling debouncer restarts its count under new parameters (R113). -/
def Debouncer.restart : Debouncer → Debouncer
  | .settling _ => .settling 0
  | .low => .low
  | .established => .established

/-- A debouncer after reset: from its line's level (R114), which is low exactly when the debouncer is LOW. -/
def Debouncer.afterReset : Debouncer → Debouncer
  | .low => .low
  | .settling _ | .established => .settling 0

/-- The reel debouncer after reset: from the line's level (R50). -/
def ReelDebouncer.afterReset : ReelDebouncer → ReelDebouncer
  | .absent => .absent
  | .settling | .present => .settling

/-! ## Tallies (R184, R185) -/

/-- A tally's value. -/
def Tallies.get (t : Tallies) : Tally → Nat
  | .fetched => t.fetched | .rejected => t.rejected | .committed => t.committed
  | .spoiled => t.spoiled | .blanked => t.blanked

/-- One more, standing still at 0xFFFF_FFFF. -/
def raised (n : Nat) : Nat := if n < 0xFFFFFFFF then n + 1 else n

/-- A tally raised by one. -/
def Tallies.raise (t : Tallies) : Tally → Tallies
  | .fetched => { t with fetched := raised t.fetched }
  | .rejected => { t with rejected := raised t.rejected }
  | .committed => { t with committed := raised t.committed }
  | .spoiled => { t with spoiled := raised t.spoiled }
  | .blanked => { t with blanked := raised t.blanked }

def State.raiseTally (s : State) (t : Tally) : State := { s with tallies := s.tallies.raise t }

/-! ## Alert sources (R156 to R160, R165) -/

/-- The site set of a source; empty for the four that have none. -/
def SiteSets.get (t : SiteSets) : Source → SiteSet
  | .stall => t.stall | .mismatch => t.mismatch | .siteException => t.siteException | .loss => t.loss
  | .halt | .logFull | .poolLow | .lot => SiteSet.empty

/-- A source's site set replaced; nothing for the four that have none. -/
def SiteSets.set (t : SiteSets) (v : SiteSet) : Source → SiteSets
  | .stall => { t with stall := v }
  | .mismatch => { t with mismatch := v }
  | .siteException => { t with siteException := v }
  | .loss => { t with loss := v }
  | .halt | .logFull | .poolLow | .lot => t

/-- A source's request latch. -/
def AlertController.requested (a : AlertController) (src : Source) : Bool := a.latch[src.priority]

def AlertController.setLatch (a : AlertController) (src : Source) (v : Bool) : AlertController :=
  { a with latch := a.latch.set src.priority v }

/-- An event for an event source (R157): the latch is SET and the named site joins the site set. -/
def AlertController.event (a : AlertController) (src : Source) (site : Option Site) : AlertController :=
  match site with
  | none => a.setLatch src true
  | some n => { a.setLatch src true with siteSets := a.siteSets.set ((a.siteSets.get src).set n true) src }

def State.alertEvent (s : State) (src : Source) (site : Option Site) : State :=
  { s with alert := s.alert.event src site }

/-- Eligibility (R160): requested, UNMASKED, not in service, and higher than every source in service. -/
def AlertController.eligible (a : AlertController) (src : Source) : Bool :=
  a.requested src && !a.mask[src.priority] && a.inService.all (fun t => src.priority.val < t.priority.val)

/-- The eligible source of highest priority (R161). -/
def AlertController.highestEligible (a : AlertController) : Option Source := Source.all.find? a.eligible

/-- The ALERT line (R160). -/
def State.alertLine (s : State) : Bool := Source.all.any s.alert.eligible

/-- The three conditions (R79, R154, R42); an event source has none. -/
def State.condition (s : State) : Source → Bool
  | .halt => s.lot.state == .halted
  | .logFull => s.log.records.length + s.log.reservations == 16
  | .poolLow => s.lot.state == .opened && s.pool.deque.length ≤ s.image.lowLevel
  | .stall | .mismatch | .siteException | .loss | .lot => false

/-- The condition sources (R156). -/
def Source.isCondition : Source → Bool
  | .halt | .logFull | .poolLow => true
  | .stall | .mismatch | .siteException | .loss | .lot => false

/-- A condition source's latch follows its condition while the source is not in service (R158). -/
def AlertController.follow (a : AlertController) (src : Source) (holds : Bool) : AlertController :=
  if src ∈ a.inService then a else a.setLatch src holds

/-- The three conditions reported at the end of an event (R79, R154, R158). -/
def State.reportConditions (s : State) : State :=
  let high := (s.alert.follow .halt (s.condition .halt)).follow .logFull (s.condition .logFull)
  { s with alert := high.follow .poolLow (s.condition .poolLow) }

/-- A source leaves service (R165): a condition source is requested again where its condition holds. -/
def State.leaveService (s : State) (src : Source) : State :=
  let a := { s.alert with inService := s.alert.inService.filter (· != src) }
  if src.isCondition then { s with alert := a.setLatch src (s.condition src) } else { s with alert := a }

/-! ## Site exceptions (R129) -/

/-- The kind's mask flag is set: MASKED. -/
def State.masked (s : State) (k : ExcKind) : Bool := s.exc.mask[k.index]

/-- An exception raised for a site (R129): the kind joins the site's sticky set, and a STRICT kind reports the site to
SITE-EXCEPTION. The raising block reads the flag by `masked`, which this does not change. -/
def State.raiseExc (s : State) (n : Site) (k : ExcKind) : State :=
  { s with
    exc := { s.exc with sticky := s.exc.sticky.set n (s.exc.sticky[n].set k.index true) }
    alert := if s.masked k then s.alert else s.alert.event .siteException (some n) }

/-- A site's sticky set emptied (R137). -/
def State.clearSticky (s : State) (n : Site) : State :=
  { s with exc := { s.exc with sticky := s.exc.sticky.set n (Vector.replicate 7 false) } }

end Sys2Proof.Machine
end

