-- ==== Sys2Proof/Machine/Ops.lean ====
section
/-! DEFINITION. The named operations over the state: the updates of one block or site, what leaves on a port, lane
forwarding (R12), the commit log (08), and the port arbiter with the UNUSED spoil and the CLOSE record (R37, R38, R58). -/

namespace Sys2Proof.Machine

/-! ## Updates -/

def State.setLane (s : State) (n : Site) (l : Lane) : State := { s with lanes := s.lanes.set n l }

def State.setSite (s : State) (n : Site) (c : SiteContext) : State := { s with sites := s.sites.set n c }

def State.setTimers (s : State) (n : Site) (t : SiteTimers) : State := { s with timers := s.timers.set n t }

def State.setWaiting (s : State) (n : Site) (b : Bool) : State :=
  { s with pool := { s.pool with waiting := s.pool.waiting.set n b } }

def State.send (s : State) (x : Sent) : State := { s with sent := s.sent ++ [x] }

/-- A site's key-wait timer stopped (R117). -/
def State.stopKeyWait (s : State) (n : Site) : State := s.setTimers n { s.timers[n] with keyWait := .stopped }

/-- A site's dwell and watchdog timers stopped (R120, R123). -/
def State.stopBurnTimers (s : State) (n : Site) : State :=
  s.setTimers n { s.timers[n] with dwell := .stopped, watchdog := .stopped }

/-! ## Lanes (R1, R12) -/

/-- A response upstream on a lane. -/
def State.answer (s : State) (n : Site) (st : Status) (data : Option Word := none) : State :=
  s.send (.upstream n ⟨st, data⟩)

/-- A request forwarded (R12): it goes downstream with its address field as received, and the lane is OUTBOUND with the
transaction recorded and the response timer started from zero with the limit in force. -/
def State.forward (s : State) (n : Site) (t : Transaction) (data : Option Word) : State :=
  (s.send (.downstream n ⟨t.kind, t.addressField, data⟩)).setLane n ⟨.outbound, .running 0 s.responseLimit, some t⟩

/-- A lane's transaction record, or that of a STAGE write at offset 0 where it has none (no run reaches that for a
lane that is HELD; assumption log 16). -/
def State.heldWrite (s : State) (n : Site) : Transaction :=
  s.lanes[n].transaction.getD ⟨.write, 0, 0, .stage, some 0, true, false⟩

/-- The STAGE offset of a transaction. -/
def Transaction.stageOffset (t : Transaction) : Fin 8 := Fin.ofNat 8 (t.offset.getD 0)

/-- A request at a lane that is not IDLE (R17): BUSY, and OVERLAP raised; the lane is untouched. -/
def State.busy (s : State) (n : Site) : State := (s.answer n .busy).raiseExc n .overlap

/-! ## Commit log (R142 to R148) -/

/-- The log can lend a reservation (R142). -/
def State.canLend (s : State) : Bool := s.log.records.length + s.log.reservations < 16

def State.lend (s : State) : State := { s with log := { s.log with reservations := s.log.reservations + 1 } }

def State.releaseRes (s : State) : State := { s with log := { s.log with reservations := s.log.reservations - 1 } }

/-- A record enqueued (R143): the next sequence number, at the back of the queue. -/
def State.enqueue (s : State) (body : RecordBody) : State :=
  { s with log := { s.log with records := s.log.records ++ [⟨s.log.nextSeq, body⟩], nextSeq := s.log.nextSeq + 1 } }

/-- A record enqueued against a reservation (R142, R147). -/
def State.useRes (s : State) (body : RecordBody) : State := (s.enqueue body).releaseRes

/-! ## The reel port (R46, R52, R58 to R60) -/

/-- The number of site contexts that hold a key binding. -/
def State.bindings (s : State) : Nat := s.sites.toList.countP (·.binding.isSome)

/-- Draws in flight: 0 or 1 (R44). -/
def State.draws (s : State) : Nat := if s.supply.draw.isSome then 1 else 0

/-- Some site waits for a key. -/
def State.anyWaiting (s : State) : Bool := s.pool.waiting.toList.any id

/-- A FETCH is wanted (R52): its seven conditions in order. -/
def State.fetchWanted (s : State) : Bool :=
  s.lot.state == .opened &&
  !s.supply.exhausted &&
  (s.tallies.fetched + s.draws < s.image.ceiling) &&
  s.supply.unwrap.isNone &&
  s.canLend &&
  (s.pool.deque.length + s.bindings + s.draws < 32) &&
  (s.pool.deque.length + s.draws ≤ s.image.refillLevel || s.anyWaiting)

/-- An APPEND is wanted (R58). -/
def State.appendWanted (s : State) : Bool :=
  (s.lot.state == .opened || s.lot.state == .draining) && !s.log.records.isEmpty

/-- What the arbiter grants (R59): the table on what is wanted and whether four records are held. -/
def State.grant (s : State) : PortState :=
  if s.supply.port != .free then .free
  else if s.fetchWanted && !(s.appendWanted && 4 ≤ s.log.records.length) then .fetch
  else if s.appendWanted then .append
  else .free

/-- A FETCH starts (R52): a reservation is lent to the draw, the draw is in TRANSFER, and FETCH is on the port. -/
def State.startFetch (s : State) : State :=
  { s.lend with supply := { s.supply with
      port := .fetch, timerRunning := true, draw := some .transfer, fetchReservation := true } }
  |>.send (.reel .fetch)

/-- An APPEND starts (R60): its page names the up to 4 oldest records. -/
def State.startAppend (s : State) : State :=
  { s with supply := { s.supply with
      port := .append, timerRunning := true, page := some ((s.log.records.take 4).map LogRecord.seq) } }
  |>.send (.reel (.append (s.log.records.take 4)))

/-- The arbiter examines what is wanted and starts what it grants (R58, R59). -/
def State.arbitrate (s : State) : State :=
  match s.grant with
  | .fetch => s.startFetch
  | .append => s.startAppend
  | .free | .image => s

/-- The UNUSED spoil's conditions (R37). -/
def State.unusedDue (s : State) : Bool := s.lot.state == .draining && !s.pool.deque.isEmpty && s.canLend

/-- The key at the back of the pool is spoiled UNUSED (R37): a reservation lent and used in one step. -/
def State.spoilUnused (s : State) : State :=
  match s.pool.deque.getLast? with
  | none => s
  | some e =>
    ({ s with pool := { s.pool with deque := s.pool.deque.dropLast } }.lend.useRes
      (.spoil none e.serial .unused Ident.absent false)).raiseTally .spoiled

/-- The lot is drained (R38). -/
def State.drained (s : State) : Bool :=
  s.bindings == 0 && s.supply.draw.isNone && s.pool.deque.isEmpty

/-- The CLOSE record's conditions (R38, R151). -/
def State.closeDue (s : State) : Bool :=
  s.lot.state == .draining && s.drained && !s.lot.closeQueued && s.canLend

/-- The CLOSE record enqueued, without a reservation, with the tallies as they stand (R38, R151). -/
def State.queueClose (s : State) : State :=
  let s' := s.enqueue (.closed s.tallies)
  { s' with lot := { s'.lot with closeQueued := true } }

/-- One thing that the lot controller starts by itself in DRAINING, and the arbiter examining the port after it: an
UNUSED spoil (R37), or the CLOSE record (R38, R151), or nothing. -/
def State.ownEvent (s : State) : State :=
  if s.unusedDue then s.spoilUnused.arbitrate
  else if s.closeDue then s.queueClose.arbitrate
  else s

/-- What the lot controller starts by itself in the event that enables it (R37, R146, R151), one key at a time and then
the CLOSE record (assumption log 8). -/
def cascade : Nat → State → State
  | 0, s => s
  | k + 1, s => cascade k s.ownEvent

/-- The examinations that end an event which changed a quantity of R58: the arbiter, the lot controller's own events
(one for each key of the pool, and the CLOSE record), and the conditions reported to the alert controller (R79, R154,
R158). Where a caller answers or forwards on a lane first, a reel command stands after it in `sent` (assumption log 25). -/
def State.finish (s : State) : State :=
  (cascade (s.pool.deque.length + 1) s.arbitrate).reportConditions

end Sys2Proof.Machine
end

