-- ==== Sys2Proof/Machine/Keys.lean ====
section
/-! DEFINITION. What moves a key (04, 05): bind, hand-out, return, commit, spoil and blank, and the end of a held
write. None of these ends an event: the event that calls them ends with `State.finish`. -/

namespace Sys2Proof.Machine

/-! ## Binding (R86) -/

/-- A key bound to a READY site (R86): an empty stage set, the offset of the write that carries the first word in
flight, attempts 0, STAGING, the dwell timer started. Ident and last outcome are kept. -/
def State.bindKey (s : State) (n : Site) (e : KeyEntry) (offset : Fin 8) : State :=
  (s.setSite n { s.sites[n] with
      state := .staging
      binding := some ⟨e.serial, e.key, e.check, Vector.replicate 8 false, false, some offset⟩
      attempts := 0
      capture := Vector.replicate 2 none
      suspect := false }).setTimers n { s.timers[n] with dwell := .running 0 s.image.dwellLimit }

/-! ## Delivery (R73, R75, R77) -/

/-- The waiting site that stands highest in the ring (R73). -/
def Pool.recipient (p : Pool) : Option Site := p.ring.find? (fun n => p.waiting[n])

/-- Rotation (R75): the site moves to the lowest place. -/
def rotate (ring : List Site) (n : Site) : List Site := ring.filter (· != n) ++ [n]

/-- A key handed out to a waiting site (R73): it leaves the waiting set, its key-wait timer stops, the ring rotates, the
key is bound with the reservation the site held, and the held write goes out with the key's word for its offset. -/
def State.handOut (s : State) (n : Site) (e : KeyEntry) : State :=
  let t := s.heldWrite n
  let s1 := (s.setWaiting n false).stopKeyWait n
  let s2 := { s1 with pool := { s1.pool with ring := rotate s1.pool.ring n } }
  (s2.bindKey n e t.stageOffset).forward n { t with observed := true } (some e.key[t.stageOffset])

/-- A key becomes available (R73): to the highest-ranked waiting site, or to one end of the deque. -/
def State.deliver (s : State) (e : KeyEntry) (front : Bool) : State :=
  match s.pool.recipient with
  | some n => s.handOut n e
  | none => { s with pool := { s.pool with deque := if front then e :: s.pool.deque else s.pool.deque ++ [e] } }

/-! ## The ends of a binding (R100 to R102) -/

/-- The binding leaves the site context, whose state and last outcome become the given ones: binding absent, check
capture emptied, suspect flag CLEAR, dwell and watchdog stopped. Ident and attempts are kept. -/
def State.endBinding (s : State) (n : Site) (next : SiteState) (last : LastOutcome) : State :=
  (s.setSite n { s.sites[n] with
      state := next, binding := none, capture := Vector.replicate 2 none, suspect := false, lastOutcome := last }
    ).stopBurnTimers n

/-- The alert source of a spoil reason (R101). UNUSED spoils a pool key by `State.spoilUnused`, which raises none. -/
def SpoilReason.source : SpoilReason → Source
  | .stall => .stall
  | .mismatch => .mismatch
  | .lift | .dwell | .release | .burn | .unused => .loss

/-- A spoil (R101): a SPOIL record on the site's reservation, SPOILED raised, the binding zeroized, the alert event. -/
def State.spoil (s : State) (n : Site) (reason : SpoilReason) (next : SiteState) : State :=
  match s.sites[n].binding with
  | none => s
  | some b =>
    (((s.useRes (.spoil (some n) b.serial reason s.sites[n].ident s.sites[n].suspect)).raiseTally .spoiled
      ).endBinding n next (.spoil reason)).alertEvent reason.source (some n)

/-- A commit (R100): a COMMIT record on the site's reservation, COMMITTED raised, the binding zeroized, FINISHED. -/
def State.commit (s : State) (n : Site) : State :=
  match s.sites[n].binding with
  | none => s
  | some b =>
    ((s.useRes (.commit n b.serial s.sites[n].ident s.sites[n].attempts)).raiseTally .committed
      ).endBinding n .finished .commit

/-- A return (R77, R102): the binding ends, its reservation is released, and the key goes to a waiting site or to the
front of the deque. -/
def State.returnKey (s : State) (n : Site) (next : SiteState) : State :=
  match s.sites[n].binding with
  | none => s
  | some b => ((s.endBinding n next .returned).releaseRes).deliver ⟨b.serial, b.key, b.check⟩ true

/-- A key some die may hold (R89, R90): exposed, or with a word in flight. -/
def Binding.reached (b : Binding) : Bool := b.exposed || b.inFlight.isSome

/-- A binding in STAGING ended by dwell expiry, RELEASE or contact loss (R90, R101, R102): spoiled where a die may hold
some of it, returned where none does. -/
def State.endStaging (s : State) (n : Site) (reason : SpoilReason) (spoiled returned : SiteState) : State :=
  match s.sites[n].binding with
  | none => s
  | some b => if b.reached then s.spoil n reason spoiled else s.returnKey n returned

/-! ## The KEYLESS path (R87) -/

/-- The masked KEYLESS path (R87): a BLANK record on the site's reservation, BLANKED raised, the site BLANKED. -/
def State.blank (s : State) (n : Site) : State :=
  ((s.useRes (.blank n s.sites[n].ident)).raiseTally .blanked).setSite n
    { s.sites[n] with state := .blanked, lastOutcome := .blank }

/-! ## The end of a held write without a key (R16, R72) -/

/-- A waiting site leaves the waiting set without a key (R16): its reservation is released, its key-wait timer stops,
its held write gets the given answer and its lane is IDLE. -/
def State.dropHeld (s : State) (n : Site) (st : Status) : State :=
  ((((s.setWaiting n false).stopKeyWait n).releaseRes).answer n st).setLane n Lane.idle

/-- The lot leaves OPEN (R34): every waiting site's held write is answered REFUSED. -/
def State.leaveOpen (s : State) : State :=
  (List.finRange 8).foldl (fun s n => if s.pool.waiting[n] then s.dropHeld n .refused else s) s

end Sys2Proof.Machine
end

