-- ==== Sys2Proof/Machine/Lots.lean ====
section
/-! DEFINITION. The lot controller and the supply engine together (02, 03): loads, lot open, halts, reel arrival and
removal, and reset. -/

namespace Sys2Proof.Machine

/-- The parameters in force change (R20, R113): with the new ones in force, running lane timers restart, settling
debouncers restart their count, and the site timers stop. -/
def State.retime (s : State) : State :=
  { s with
    lanes := Vector.ofFn fun n : Site => { s.lanes[n] with timer := s.lanes[n].timer.restart s.responseLimit }
    timers := Vector.ofFn fun n : Site =>
      ⟨s.timers[n].debouncer.restart, .stopped, .stopped, .stopped⟩ }

/-- The operation on the port ends (R46): the port is FREE, the reel response timer stops, no page is named. -/
def State.freePort (s : State) : State :=
  { s with supply := { s.supply with port := .free, timerRunning := false, page := none } }

/-- The draw ends and its reservation is released (R53, R56, R57); nothing where none is in flight. -/
def State.endDraw (s : State) : State :=
  if s.supply.draw.isSome then
    { s.releaseRes with supply := { s.supply with draw := none, fetchReservation := false, unwrap := none } }
  else s

/-- Entry to LOADING (R29, R30, R47): load error NONE, the boot parameters where the lot was CLOSED, IMAGE started. -/
def State.enterLoading (s : State) : State :=
  let s1 := { s with lot := { s.lot with state := .loading, loadError := .none } }
  let s2 := if s.lot.state = .closed then s1.retime else s1
  { s2 with supply := { s2.supply with port := .image, timerRunning := true } }.send (.reel .image)

/-- A failed load (R31): UNLOADED with the load error, and a LOT event. -/
def State.failLoad (s : State) (e : LoadError) : State :=
  { s with lot := { s.lot with state := .unloaded, loadError := e } }.alertEvent .lot none

/-- The site context at lot open (R33, R81): fresh where contact is established, Default where not. -/
def SiteContext.atOpen (d : Debouncer) : SiteContext :=
  match d with
  | .established => { SiteContext.default with state := .ready }
  | .low | .settling _ => SiteContext.default

/-- Lot open (R33): the new image is held and in force, every block makes its open-time change, and the OPEN record is
enqueued with sequence 1 (R150). -/
def State.lotOpen (s : State) (im : LotImage) : State :=
  ({ ({ s with lot := { s.lot with
          state := .opened, image := some im, haltCause := .none, loadError := .none, closeQueued := false } }
      ).retime with
      supply := { s.supply with
        draw := none, fetchReservation := false, unwrap := none, page := none, appendFailures := 0,
        exhausted := false }
      pool := { s.pool with deque := [], waiting := SiteSet.empty, highest := none }
      sites := Vector.ofFn fun n : Site => SiteContext.atOpen s.timers[n].debouncer
      exc := ⟨Vector.replicate 8 (Vector.replicate 7 false), im.excMask⟩
      log := ⟨[], 0, 1⟩
      alert := ⟨Vector.replicate 8 false, ⟨SiteSet.empty, SiteSet.empty, SiteSet.empty, SiteSet.empty⟩,
        im.alertMask, [], im.autoEnd⟩
      tallies := Tallies.zero
      latches := Vector.replicate 8 none }).enqueue (.opened im.lotId)

/-- A fatal supply failure (R41, R42, R57, R63): a lot in OPEN or DRAINING halts with the cause, its held writes are
refused, the operation on the port and the draw are abandoned. In any other state nothing happens. -/
def State.halt (s : State) (c : HaltCause) : State :=
  if s.lot.state = .opened ∨ s.lot.state = .draining then
    let s1 := s.leaveOpen.freePort.endDraw
    { s1 with lot := { s1.lot with state := .halted, haltCause := c } }
  else s

/-- Reel arrival at the lot controller (R30): a load in UNLOADED, nothing elsewhere. -/
def State.reelArrival (s : State) : State :=
  match s.lot.state with
  | .unloaded => s.enterLoading
  | .loading | .opened | .draining | .closed | .halted => s

/-- Reel removal (R30, R51): the operation on the port is abandoned and the lot controller acts by lot state. -/
def State.reelRemoval (s : State) : State :=
  match s.lot.state with
  | .unloaded => s
  | .loading => s.freePort.failLoad .reel
  | .opened | .draining => (s.halt .reelLost).finish
  | .closed => { s with lot := { s.lot with state := .unloaded } }.retime
  | .halted => s

/-- Power-on and the RESET line (R22, R45, R107, R127, R141, R156): every Default, the debouncers from their lines'
levels, and the reset cause. Commands still waiting are events still to come, so the queue is kept. -/
def State.resetBy (s : State) (c : ResetCause) : State :=
  { State.reset with
    lot := { State.reset.lot with resetCause := c }
    supply := { State.reset.supply with debouncer := s.supply.debouncer.afterReset }
    timers := Vector.ofFn fun n : Site => ⟨s.timers[n].debouncer.afterReset, .stopped, .stopped, .stopped⟩
    pending := s.pending }

end Sys2Proof.Machine
end

