-- ==== Sys2Proof/Machine/Engine.lean ====
section
/-! DEFINITION. The site engine (05): the instruction it gives the lane for a STAGE write and an ARM write (R11, R85,
R88, R91, R93), and its reading of observed outcomes (R83 to R99). Where an event changes a quantity of R58 it ends
with `State.finish` here. -/

namespace Sys2Proof.Machine

/-! ## Instructions (R11) -/

/-- A request out of sequence (R132): ORDER, answered REFUSED. -/
def State.refuseOrder (s : State) (n : Site) : State := (s.raiseExc n .order).answer n .refused

/-- All four ident words are present (R81). -/
def Ident.complete (i : Ident) : Bool := i.toList.all Option.isSome

/-- The pool's answer to a bind claim in OPEN (R68, R69, R70), with the lane's action. -/
def State.bindClaim (s : State) (n : Site) (t : Transaction) : State :=
  if !s.canLend then s.answer n .retry
  else
    match s.pool.deque with
    | e :: rest =>
      (({ s with pool := { s.pool with deque := rest } }.lend.bindKey n e t.stageOffset).forward n
        { t with observed := true } (some e.key[t.stageOffset])).finish
    | [] =>
      if s.image.keyWaitLimit != 0 then
        ((((s.lend).setWaiting n true).setTimers n
            { s.timers[n] with keyWait := .running 0 s.image.keyWaitLimit }).setLane n
          ⟨.held, .stopped, some { t with observed := true }⟩).finish
      else if s.masked .keyless then
        ((((s.raiseExc n .keyless).lend).blank n).forward n { t with observed := true } (some 0)).finish
      else
        (((s.raiseExc n .keyless).lend.releaseRes).answer n .refused).finish

/-- The bind trigger (R85): the ident test, the lot state test, the bind claim. -/
def State.bindTrigger (s : State) (n : Site) (t : Transaction) : State :=
  if s.image.identRequired && !s.sites[n].ident.complete then s.refuseOrder n
  else if s.lot.state != .opened then (s.raiseExc n .keyless).answer n .refused
  else s.bindClaim n t

/-- A STAGE write at the site engine, by site state (R85, R88, R91). A VACANT site's write does not reach the engine
(R7), and a STAGING site has a binding (R82); where no run comes, the write is answered as the lane would (log 16). -/
def State.stageWrite (s : State) (n : Site) (t : Transaction) : State :=
  match s.sites[n].state with
  | .ready => s.bindTrigger n t
  | .staging =>
    match s.sites[n].binding with
    | none => s.refuseOrder n
    | some b =>
      (s.setSite n { s.sites[n] with binding := some { b with inFlight := some t.stageOffset } }).forward n
        { t with observed := true } (some b.key[t.stageOffset])
  | .blanked => s.forward n { t with observed := true } (some 0)
  | .armed | .programmed | .finished | .fault => s.refuseOrder n
  | .vacant => s.answer n .detached

/-- The stage set is complete (R89). -/
def Binding.complete (b : Binding) : Bool := b.stageSet.toList.all id

/-- The arm check (R93). -/
def State.armAdmitted (s : State) (n : Site) : Bool :=
  s.sites[n].state == .staging && (s.sites[n].binding.map Binding.complete).getD false &&
  (s.lot.state == .opened || s.lot.state == .draining)

/-- An ARM write with the arm value (R93): forwarded and the site ARMED, or refused with ORDER. -/
def State.armWrite (s : State) (n : Site) (t : Transaction) : State :=
  if s.armAdmitted n then
    ((s.setSite n { s.sites[n] with state := .armed, suspect := true }).setTimers n
      { s.timers[n] with dwell := .stopped, watchdog := .running 0 s.image.watchdogLimit }).forward n
        { t with observed := true, arm := true } (some s.image.arm)
  else s.refuseOrder n

/-! ## Outcomes (R83) -/

/-- The end of an observed transaction: OK, with the data of a READ (0 for a WRITE), NAK or TIMEOUT. -/
inductive DieOutcome where
  | ok (data : Word)
  | nak
  | timeout
  deriving DecidableEq, Repr

/-- IDENT (R84): an OK at a READY site captures the word. -/
def State.identOutcome (s : State) (n : Site) (offset : Nat) (o : DieOutcome) : State :=
  match s.sites[n].state, o with
  | .ready, .ok data =>
    s.setSite n { s.sites[n] with ident := s.sites[n].ident.set (Fin.ofNat 4 offset) (some data) }
  | _, _ => s

/-- A binding after the outcome of its word in flight (R89). -/
def Binding.stageOutcome (b : Binding) (offset : Fin 8) : DieOutcome → Binding
  | .ok _ => { b with inFlight := none, stageSet := b.stageSet.set offset true, exposed := true }
  | .nak => { b with inFlight := none }
  | .timeout => { b with inFlight := none, exposed := true }

/-- STAGE (R89): interpreted where the binding's in-flight offset is the outcome's. -/
def State.stageOutcome (s : State) (n : Site) (offset : Nat) (o : DieOutcome) : State :=
  match s.sites[n].binding with
  | none => s
  | some b =>
    if b.inFlight = some (Fin.ofNat 8 offset) then
      s.setSite n { s.sites[n] with binding := some (b.stageOutcome (Fin.ofNat 8 offset) o) }
    else s

/-- Back to STAGING from ARMED (R94, R96): suspect CLEAR, the watchdog stopped, the dwell timer from zero. -/
def State.backToStaging (s : State) (n : Site) : State :=
  (s.setSite n { s.sites[n] with state := .staging, suspect := false }).setTimers n
    { s.timers[n] with dwell := .running 0 s.image.dwellLimit, watchdog := .stopped }

/-- ARM (R94): OK and TIMEOUT count an attempt, NAK returns the site to STAGING. -/
def State.armOutcome (s : State) (n : Site) (o : DieOutcome) : State :=
  match s.sites[n].state, o with
  | .armed, .nak => s.backToStaging n
  | .armed, .ok _ => s.setSite n { s.sites[n] with attempts := s.sites[n].attempts + 1 }
  | .armed, .timeout => s.setSite n { s.sites[n] with attempts := s.sites[n].attempts + 1 }
  | _, _ => s

/-- STATUS done (R95): PROGRAMMED, the watchdog stopped, suspect CLEAR, the check capture emptied. -/
def State.statusDone (s : State) (n : Site) : State :=
  (s.setSite n { s.sites[n] with
      state := .programmed, suspect := false, capture := Vector.replicate 2 none }).setTimers n
    { s.timers[n] with watchdog := .stopped }

/-- STATUS fail (R96): STAGING again below the retry limit, a BURN spoil at it, recorded with suspect CLEAR. -/
def State.statusFail (s : State) (n : Site) : State :=
  if s.sites[n].attempts < s.image.retryLimit then s.backToStaging n
  else ((s.setSite n { s.sites[n] with suspect := false }).spoil n .burn .fault).finish

/-- STATUS (R95 to R97): an OK at an ARMED site, decoded under the status mask. -/
def State.statusOutcome (s : State) (n : Site) (o : DieOutcome) : State :=
  match s.sites[n].state, o with
  | .armed, .ok data =>
    if data &&& s.image.statusMask = s.image.done then s.statusDone n
    else if data &&& s.image.statusMask = s.image.fail then s.statusFail n
    else s
  | _, _ => s

/-- The comparison of a complete capture with the expected check (R99): commit, or MISMATCH. -/
def State.compareCheck (s : State) (n : Site) (check : CheckWords) : State :=
  match s.sites[n].capture[0], s.sites[n].capture[1] with
  | some w0, some w1 =>
    if w0 = check[0] ∧ w1 = check[1] then (s.commit n).finish
    else (s.spoil n .mismatch .fault).finish
  | _, _ => s

/-- CHECK (R98, R99): an OK at a PROGRAMMED site captures the word; a complete pair is compared. -/
def State.checkOutcome (s : State) (n : Site) (offset : Nat) (o : DieOutcome) : State :=
  match s.sites[n].state, s.sites[n].binding, o with
  | .programmed, some b, .ok data =>
    (s.setSite n { s.sites[n] with capture := s.sites[n].capture.set (Fin.ofNat 2 offset) (some data) }
      ).compareCheck n b.check
  | _, _, _ => s

/-- An outcome read by the transaction's role (R83). -/
def State.outcomeByRole (s : State) (n : Site) (t : Transaction) (o : DieOutcome) : State :=
  match t.role with
  | .ident => s.identOutcome n (t.offset.getD 0) o
  | .stage => s.stageOutcome n (t.offset.getD 0) o
  | .arm => if t.arm then s.armOutcome n o else s
  | .status => s.statusOutcome n o
  | .check => s.checkOutcome n (t.offset.getD 0) o
  | .none | .claim | .guard => s

/-- An outcome at the site engine (R83): interpreted in OPEN, DRAINING, CLOSED and HALTED. In UNLOADED and LOADING no
transaction is observed, one forwarded in CLOSED included (R4, R83, R106). -/
def State.outcome (s : State) (n : Site) (t : Transaction) (o : DieOutcome) : State :=
  if s.lot.state.imageInForce then s.outcomeByRole n t o else s

/-! ## Contact (R104, R105) -/

/-- Contact establishment (R104): a fresh context, READY. -/
def State.establish (s : State) (n : Site) : State :=
  (s.setTimers n { s.timers[n] with debouncer := .established }).setSite n
    { SiteContext.default with state := .ready }

/-- The lane's part of a contact loss (R18): DETACHED for a transaction in flight or held, IDLE in every case. -/
def State.laneLoss (s : State) (n : Site) : State :=
  match s.lanes[n].state with
  | .idle => s
  | .outbound | .held => (s.answer n .detached).setLane n Lane.idle
  | .quarantine => s.setLane n Lane.idle

/-- A site's state made VACANT, every other field kept (R105). -/
def State.vacate (s : State) (n : Site) : State := s.setSite n { s.sites[n] with state := .vacant }

/-- The site engine's part of a contact loss (R105), after the lane's. -/
def State.siteLoss (s : State) (n : Site) : State :=
  match s.sites[n].state with
  | .vacant | .blanked | .finished | .fault => s.vacate n
  | .ready =>
    if s.pool.waiting[n] then ((((s.setWaiting n false).stopKeyWait n).releaseRes).vacate n).finish
    else s.vacate n
  | .staging => (s.endStaging n .lift .vacant .vacant).finish
  | .armed | .programmed => (s.spoil n .lift .vacant).finish

/-! ## Expiries of the site's timers (R118, R121, R124) -/

/-- Key-wait expiry (R118): out of the waiting set, KEYLESS raised, the KEYLESS path with the reservation held. -/
def State.keyWaitExpired (s : State) (n : Site) : State :=
  let s1 := s.stopKeyWait n
  if s.pool.waiting[n] then
    let s2 := (s1.setWaiting n false).raiseExc n .keyless
    if s.masked .keyless then
      ((s2.blank n).forward n { s.heldWrite n with observed := true } (some 0)).finish
    else ((s2.releaseRes.answer n .refused).setLane n Lane.idle).finish
  else s1

/-- Dwell expiry (R121): return to READY, or spoil DWELL and FAULT. -/
def State.dwellExpired (s : State) (n : Site) : State :=
  ((s.stopBurnTimers n).endStaging n .dwell .fault .ready).finish

/-- Program watchdog expiry (R124): spoil STALL, FAULT. -/
def State.watchdogExpired (s : State) (n : Site) : State :=
  ((s.stopBurnTimers n).spoil n .stall .fault).finish

/-! ## Expiries of the lane timer (R14, R15) -/

/-- Response timer expiry (R14): TIMEOUT upstream and raised, the outcome to the site engine where observed, the lane
in QUARANTINE with the quiet timer from zero under the same limit. -/
def State.responseExpired (s : State) (n : Site) : State :=
  let s1 := (s.answer n .timeout).raiseExc n .timeout
  let s2 := match s.lanes[n].transaction with
    | some t => if t.observed then s1.outcome n t .timeout else s1
    | none => s1
  s2.setLane n ⟨.quarantine, .running 0 s.lanes[n].timer.limit, none⟩

/-- Quiet timer expiry (R15): the lane is IDLE. -/
def State.quietExpired (s : State) (n : Site) : State := s.setLane n Lane.idle

end Sys2Proof.Machine
end

