-- ==== Sys2Proof/Machine/Views.lean ====
section
/-! DEFINITION. The read-only words of the claim window: identity and status words (R172, R173) and the view pages
(R176 to R181), as Formats packs them (R193). -/

namespace Sys2Proof.Machine

/-- Hexadecimal digits to a number, first digit lowest. -/
def nibbles : List Nat → Nat
  | [] => 0
  | x :: xs => x + 16 * nibbles xs

/-- PART ID (R172, R193): vendor 0x3A9, part 0x0B8, revision 0x01. -/
def partId : Word := place 0x3A9 20 ||| place 0x0B8 8 ||| place 0x01 0

/-- LOT STATE (R172, R193). -/
def State.lotStateWord (s : State) : Word :=
  place s.lot.state.code 0 ||| place s.lot.haltCause.code 4 ||| place s.lot.loadError.code 8
    ||| place s.lot.resetCause.code 12 ||| place (bit s.supply.exhausted) 16

/-- A site's state code (R173). -/
def State.siteCode (s : State) (n : Site) : Nat := s.sites[n].state.code s.pool.waiting[n]

/-- SITE SUMMARY (R173, R193). -/
def State.siteSummary (s : State) : Word := BitVec.ofNat 32 (nibbles ((List.finRange 8).map s.siteCode))

/-- SITE page word 0 (R179, R193). Without a binding the stage-set count, the exposed flag and the serial read 0. -/
def State.siteWord0 (s : State) (n : Site) : Word :=
  let c := s.sites[n]
  place (s.siteCode n) 0 ||| place (bit s.pool.waiting[n]) 4 ||| place s.lanes[n].state.code 5
    ||| place (bit c.binding.isSome) 7
    ||| place ((c.binding.map fun b => b.stageSet.toList.countP id).getD 0) 8
    ||| place (bit ((c.binding.map (·.exposed)).getD false)) 12
    ||| place c.attempts 13 ||| place c.lastOutcome.code 16 ||| place c.lastOutcome.reasonCode 19
    ||| place c.ident.flags 24

/-- SITE page (R179). -/
def State.sitePage (s : State) (n : Site) : Nat → Word
  | 0 => s.siteWord0 n
  | 1 => place (flagsToNat s.exc.sticky[n].toList) 0
  | 2 => s.sites[n].ident[0].getD 0
  | 3 => s.sites[n].ident[1].getD 0
  | 4 => s.sites[n].ident[2].getD 0
  | 5 => s.sites[n].ident[3].getD 0
  | 6 => serialHigh ((s.sites[n].binding.map (·.serial)).getD 0)
  | 7 => serialLow ((s.sites[n].binding.map (·.serial)).getD 0)
  | _ => 0

/-- POOL page (R80, R180). -/
def State.poolPage (s : State) : Nat → Word
  | 0 => place s.pool.deque.length 0 ||| place (flagsToNat s.pool.waiting.toList) 8
  | 1 => BitVec.ofNat 32 (nibbles (s.pool.ring.map (·.val)))
  | 2 => serialHigh ((s.pool.deque.head?.map (·.serial)).getD 0)
  | 3 => serialLow ((s.pool.deque.head?.map (·.serial)).getD 0)
  | 4 => serialHigh ((s.pool.deque.getLast?.map (·.serial)).getD 0)
  | 5 => serialLow ((s.pool.deque.getLast?.map (·.serial)).getD 0)
  | 6 => serialHigh (s.pool.highest.getD 0) ||| place (bit s.pool.highest.isSome) 31
  | 7 => serialLow (s.pool.highest.getD 0)
  | _ => 0

/-- LOG page (R180): a slot at or beyond the records held reads 0. -/
def State.logPage (s : State) (i : Nat) : Word :=
  if i = 0 then place s.log.records.length 0 ||| place s.log.reservations 8
  else if i = 1 then s.log.nextSeq
  else match s.log.records[(i - 2) / 12]? with
    | some r => r.word ((i - 2) % 12)
    | none => 0

/-- TABLE page (R181). -/
def State.tablePage (s : State) (i : Nat) : Word :=
  match s.image.table.toList[i]? with
  | some e => e.word
  | none => 0

/-- The word at a page's index (R178). -/
def State.pageWord (s : State) (p : ViewPage) (i : Nat) : Word :=
  match p with
  | .site n => s.sitePage n i
  | .pool => s.poolPage i
  | .log => s.logPage i
  | .table => s.tablePage i
  | .lot => s.image.word i

/-- VIEW SELECT as read (R177): the page and the index the next VIEW DATA read returns. -/
def ViewPointer.word (p : ViewPointer) : Word := place p.page.code 8 ||| place p.index 0

/-- The pointer after a VIEW DATA read (R178): one further, from the last word back to index 0. -/
def ViewPointer.advance (p : ViewPointer) : ViewPointer :=
  { p with index := if p.index + 1 < p.page.length then p.index + 1 else 0 }

end Sys2Proof.Machine
end

