-- ==== Sys2Proof/Machine/Claim.lean ====
section
/-! DEFINITION. The claim window responder (10): what each claim word answers and does, and the commands it carries to
their owners (R174, R175). Each operation here includes the answer on the carrying lane, which stays IDLE (R6). -/

namespace Sys2Proof.Machine

/-! ## Commands (R174, R175) -/

/-- LOAD at the lot controller (R29). In `sent` IMAGE stands before the command's OK (assumption log 25; DESIGN CHOICE). -/
def State.cmdLoad (s : State) (n : Site) : State :=
  match s.lot.state with
  | .unloaded =>
    if s.supply.debouncer = .present then s.enterLoading.answer n .ok else (s.failLoad .reel).answer n .ok
  | .closed =>
    if s.supply.debouncer = .present then s.enterLoading.answer n .ok
    else ((s.failLoad .reel).retime).answer n .ok
  | .loading | .opened | .draining | .halted => s.answer n .refused

/-- CLOSE at the lot controller (R35, R36): DRAINING, the lot having left OPEN. In `sent` the OK stands before what the
arbiter starts (assumption log 25; DESIGN CHOICE). -/
def State.cmdClose (s : State) (n : Site) : State :=
  if s.lot.state = .opened then
    (({ s.leaveOpen with lot := { s.leaveOpen.lot with state := .draining } }).answer n .ok).finish
  else s.answer n .refused

/-- RELEASE at the site engine of site m (R103), answered on lane n. In `sent` the answer stands before what the arbiter
starts (assumption log 25; DESIGN CHOICE). -/
def State.releaseSite (s : State) (n m : Site) : State :=
  match s.sites[m].state with
  | .vacant | .finished => s.answer n .refused
  | .ready =>
    if s.pool.waiting[m] then ((s.dropHeld m .refused).answer n .ok).finish else s.answer n .refused
  | .staging => ((s.endStaging m .release .finished .ready).answer n .ok).finish
  | .blanked | .fault => (s.setSite m { s.sites[m] with state := .finished }).answer n .ok
  | .armed | .programmed => ((s.spoil m .release .finished).answer n .ok).finish

/-- A command with a site argument (R174): refused in UNLOADED and LOADING and for an argument outside 0 to 7. -/
def State.withSiteArg (s : State) (n : Site) (arg : Byte) (f : Site → State) : State :=
  if s.lot.state.imageInForce then
    match siteArg arg with
    | some m => f m
    | none => s.answer n .refused
  else s.answer n .refused

def State.cmdRelease (s : State) (n : Site) (arg : Byte) : State := s.withSiteArg n arg (s.releaseSite n)

/-- The ring with site m lowest (R76): numeric order from the site after it. -/
def lowestRing (m : Site) : List Site := (List.finRange 8).map fun i => m + 1 + i

/-- LOWEST at the key pool (R76). -/
def State.cmdLowest (s : State) (n : Site) (arg : Byte) : State :=
  s.withSiteArg n arg fun m => { s with pool := { s.pool with ring := lowestRing m } }.answer n .ok

/-- MASK at the exception unit (R134). -/
def State.cmdMask (s : State) (n : Site) (arg : Byte) (on : Bool) : State :=
  if s.lot.state.imageInForce then
    match kindArg arg with
    | some k => { s with exc := { s.exc with mask := s.exc.mask.set k.index on } }.answer n .ok
    | none => s.answer n .refused
  else s.answer n .refused

/-- CLEAR-CHECKED at the exception unit (R138): refused for a site pending in SITE-EXCEPTION. -/
def State.cmdClearChecked (s : State) (n : Site) (arg : Byte) : State :=
  s.withSiteArg n arg fun m =>
    if s.alert.siteSets.siteException[m] then s.answer n .refused else (s.clearSticky m).answer n .ok

/-- The site leaves SITE-EXCEPTION's pending set, and the removal of the last one withdraws the request (R139, R167). -/
def AlertController.removePending (a : AlertController) (m : Site) : AlertController :=
  if a.siteSets.siteException[m] then
    let rest := a.siteSets.siteException.set m false
    let a' := { a with siteSets := { a.siteSets with siteException := rest } }
    if rest.toList.any id then a' else a'.setLatch .siteException false
  else a

/-- CLEAR-UNCHECKED at the exception unit (R139). -/
def State.cmdClearUnchecked (s : State) (n : Site) (arg : Byte) : State :=
  s.withSiteArg n arg fun m =>
    { s.clearSticky m with alert := s.alert.removePending m }.answer n .ok

/-- A WRITE to the COMMAND word (R174, R193): the code in bits 31 to 24, the argument in bits 7 to 0, the MASK setting
in bit 8. -/
def State.commandWrite (s : State) (n : Site) (data : Word) : State :=
  let arg : Byte := BitVec.ofNat 8 (field data 7 0)
  match field data 31 24 with
  | 1 => s.cmdLoad n
  | 2 => s.cmdClose n
  | 3 => s.cmdRelease n arg
  | 4 => s.cmdLowest n arg
  | 5 => s.cmdMask n arg (data.getLsbD 8)
  | 6 => s.cmdClearChecked n arg
  | 7 => s.cmdClearUnchecked n arg
  | _ => s.answer n .refused

/-! ## Alert words (R161 to R166) -/

/-- ALERT TAKE as read: the source in bits 3 to 0, 0xF for NONE, and its site set in bits 15 to 8 (R193). -/
def takeWord (src : Option Source) (sites : SiteSet) : Word :=
  match src with
  | none => 0xF
  | some x => place x.priority.val 0 ||| place (flagsToNat sites.toList) 8

/-- TAKE (R161, R166): the highest eligible source with its sites; its latch and site set are cleared and it goes in
service, which it leaves at once with auto-end ON. -/
def State.takeAlert (s : State) (n : Site) : State :=
  match s.alert.highestEligible with
  | none => s.answer n .ok (some (takeWord none SiteSet.empty))
  | some src =>
    let a := { s.alert.setLatch src false with
      siteSets := s.alert.siteSets.set SiteSet.empty src
      inService := s.alert.inService ++ [src] }
    let s' := { s with alert := a }
    (if s.alert.autoEnd then s'.leaveService src else s').answer n .ok
      (some (takeWord (some src) (s.alert.siteSets.get src)))

/-- Non-specific END (R163). -/
def State.endAlert (s : State) (n : Site) : State :=
  match s.alert.inService.getLast? with
  | none => s.answer n .refused
  | some src => (s.leaveService src).answer n .ok

/-- Specific END (R164). -/
def State.endAlertOf (s : State) (n : Site) (src : Source) : State :=
  if src ∈ s.alert.inService then (s.leaveService src).answer n .ok else s.answer n .refused

/-- A WRITE to ALERT END (R193): bit 31 specific, bits 2 to 0 the source. -/
def State.alertEndWrite (s : State) (n : Site) (data : Word) : State :=
  if data.getLsbD 31 then s.endAlertOf n (Source.ofPriority (BitVec.ofNat 3 (field data 2 0))) else s.endAlert n

/-- A WRITE to ALERT MASK (R159). -/
def State.alertMaskWrite (s : State) (n : Site) (data : Word) : State :=
  { s with alert := { s.alert with mask := flagsAt data 0 8 } }.answer n .ok

/-- A WRITE to EXCEPTION MASK (R135). -/
def State.excMaskWrite (s : State) (n : Site) (data : Word) : State :=
  { s with exc := { s.exc with mask := flagsAt data 0 7 } }.answer n .ok

/-! ## View and tally words (R177, R178, R182, R183) -/

/-- A WRITE to VIEW SELECT (R177). -/
def State.selectView (s : State) (n : Site) (page : BitVec 4) (index : Byte) : State :=
  match pageArg page with
  | some p =>
    if index.toNat < p.length then { s with pointers := s.pointers.set n ⟨p, index.toNat⟩ }.answer n .ok
    else s.answer n .refused
  | none => s.answer n .refused

/-- A READ of VIEW DATA (R178): the word at the pointer, then the pointer one further. -/
def State.readView (s : State) (n : Site) : State :=
  { s with pointers := s.pointers.set n s.pointers[n].advance }.answer n .ok
    (some (s.pageWord s.pointers[n].page s.pointers[n].index))

/-- A snapshot of the tallies, all five pending (R182). -/
def Tallies.latch (t : Tallies) : TallyLatch :=
  ⟨⟨t.fetched, true⟩, ⟨t.rejected, true⟩, ⟨t.committed, true⟩, ⟨t.spoiled, true⟩, ⟨t.blanked, true⟩⟩

/-- A WRITE to TALLY LATCH (R182): a snapshot where the latch is empty, nothing where it is not; OK in both. -/
def State.latchTallies (s : State) (n : Site) : State :=
  match s.latches[n] with
  | none => { s with latches := s.latches.set n (some s.tallies.latch) }.answer n .ok
  | some _ => s.answer n .ok

def TallyLatch.get (l : TallyLatch) : Tally → LatchedValue
  | .fetched => l.fetched | .rejected => l.rejected | .committed => l.committed
  | .spoiled => l.spoiled | .blanked => l.blanked

/-- A value released. -/
def TallyLatch.release (l : TallyLatch) : Tally → TallyLatch
  | .fetched => { l with fetched := { l.fetched with pending := false } }
  | .rejected => { l with rejected := { l.rejected with pending := false } }
  | .committed => { l with committed := { l.committed with pending := false } }
  | .spoiled => { l with spoiled := { l.spoiled with pending := false } }
  | .blanked => { l with blanked := { l.blanked with pending := false } }

/-- Some value is pending. -/
def TallyLatch.anyPending (l : TallyLatch) : Bool :=
  l.fetched.pending || l.rejected.pending || l.committed.pending || l.spoiled.pending || l.blanked.pending

/-- A READ of a TALLY word (R183): a pending latched value, which is released, or the live tally. -/
def State.readTally (s : State) (n : Site) (t : Tally) : State :=
  let live := s.answer n .ok (some (BitVec.ofNat 32 (s.tallies.get t)))
  match s.latches[n] with
  | none => live
  | some l =>
    if (l.get t).pending then
      { s with latches := s.latches.set n (if (l.release t).anyPending then some (l.release t) else none) }.answer n .ok
        (some (BitVec.ofNat 32 (l.get t).value))
    else live

/-! ## The sixteen words (R171) -/

/-- A READ of a claim word (R171): the last arm is word 15, SITE SUMMARY. -/
def State.claimRead (s : State) (n : Site) (word : Fin 16) : State :=
  match word.val with
  | 0 => s.answer n .ok (some partId)
  | 1 => s.answer n .ok (some s.lotStateWord)
  | 2 => s.answer n .ok (some 0)
  | 3 => s.takeAlert n
  | 4 => s.answer n .ok (some 0)
  | 5 => s.answer n .ok (some (place (flagsToNat s.alert.mask.toList) 0))
  | 6 => s.answer n .ok (some (place (flagsToNat s.exc.mask.toList) 0))
  | 7 => s.answer n .ok (some s.pointers[n].word)
  | 8 => s.readView n
  | 9 => s.answer n .ok (some 0)
  | 10 => s.readTally n .fetched
  | 11 => s.readTally n .rejected
  | 12 => s.readTally n .committed
  | 13 => s.readTally n .spoiled
  | 14 => s.readTally n .blanked
  | _ => s.answer n .ok (some s.siteSummary)

/-- A WRITE to a claim word (R171): the last arm is every word without a write behaviour. -/
def State.claimWrite (s : State) (n : Site) (word : Fin 16) (data : Word) : State :=
  match word.val with
  | 2 => s.commandWrite n data
  | 4 => s.alertEndWrite n data
  | 5 => s.alertMaskWrite n data
  | 6 => s.excMaskWrite n data
  | 7 => s.selectView n (BitVec.ofNat 4 (field data 11 8)) (BitVec.ofNat 8 (field data 7 0))
  | 9 => s.latchTallies n
  | _ => s.answer n .refused

/-- A claim-window access on a lane (R6, R17): the responder where the lane is IDLE, BUSY with OVERLAP where not. -/
def State.onIdleLane (s : State) (n : Site) (f : State) : State :=
  if s.lanes[n].state = .idle then f else s.busy n

end Sys2Proof.Machine
end

