-- ==== Sys2Proof/Machine/ClaimFamily.lean ====
section
/-! DEFINITION. The commands that reach the part through the claim window (09, 10), each on the lane that carries it:
at an IDLE lane the responder's operation, at any other BUSY with OVERLAP (R17). The address check and the window match
are taken as passed (assumption log 12). -/

namespace Sys2Proof.Machine

/-- LOAD (R29). -/
def execLoad (n : Site) (s : State) : Host.Outcome State Fault Refusal := .next (s.onIdleLane n (s.cmdLoad n))

/-- CLOSE (R35). -/
def execClose (n : Site) (s : State) : Host.Outcome State Fault Refusal := .next (s.onIdleLane n (s.cmdClose n))

/-- RELEASE (R103). -/
def execRelease (n : Site) (arg : Byte) (s : State) : Host.Outcome State Fault Refusal :=
  .next (s.onIdleLane n (s.cmdRelease n arg))

/-- LOWEST (R76). -/
def execLowest (n : Site) (arg : Byte) (s : State) : Host.Outcome State Fault Refusal :=
  .next (s.onIdleLane n (s.cmdLowest n arg))

/-- MASK (R134). -/
def execMask (n : Site) (arg : Byte) (on : Bool) (s : State) : Host.Outcome State Fault Refusal :=
  .next (s.onIdleLane n (s.cmdMask n arg on))

/-- CLEAR_CHECKED (R138). -/
def execClearChecked (n : Site) (arg : Byte) (s : State) : Host.Outcome State Fault Refusal :=
  .next (s.onIdleLane n (s.cmdClearChecked n arg))

/-- CLEAR_UNCHECKED (R139). -/
def execClearUnchecked (n : Site) (arg : Byte) (s : State) : Host.Outcome State Fault Refusal :=
  .next (s.onIdleLane n (s.cmdClearUnchecked n arg))

/-- ALERT_TAKE (R161). -/
def execAlertTake (n : Site) (s : State) : Host.Outcome State Fault Refusal := .next (s.onIdleLane n (s.takeAlert n))

/-- ALERT_END_NON_SPECIFIC (R163). -/
def execAlertEndNonSpecific (n : Site) (s : State) : Host.Outcome State Fault Refusal :=
  .next (s.onIdleLane n (s.endAlert n))

/-- ALERT_END_SPECIFIC (R164). -/
def execAlertEndSpecific (n : Site) (source : BitVec 3) (s : State) : Host.Outcome State Fault Refusal :=
  .next (s.onIdleLane n (s.endAlertOf n (Source.ofPriority source)))

/-- ALERT_MASK (R159). -/
def execAlertMask (n : Site) (data : Word) (s : State) : Host.Outcome State Fault Refusal :=
  .next (s.onIdleLane n (s.alertMaskWrite n data))

/-- EXCEPTION_MASK (R135). -/
def execExceptionMask (n : Site) (data : Word) (s : State) : Host.Outcome State Fault Refusal :=
  .next (s.onIdleLane n (s.excMaskWrite n data))

/-- VIEW_SELECT (R177). -/
def execViewSelect (n : Site) (page : BitVec 4) (index : Byte) (s : State) : Host.Outcome State Fault Refusal :=
  .next (s.onIdleLane n (s.selectView n page index))

/-- VIEW_DATA (R178). -/
def execViewData (n : Site) (s : State) : Host.Outcome State Fault Refusal := .next (s.onIdleLane n (s.readView n))

/-- TALLY_LATCH (R182). -/
def execTallyLatch (n : Site) (s : State) : Host.Outcome State Fault Refusal :=
  .next (s.onIdleLane n (s.latchTallies n))

/-- TALLY (R183). -/
def execTally (n : Site) (t : Tally) (s : State) : Host.Outcome State Fault Refusal :=
  .next (s.onIdleLane n (s.readTally n t))

/-- CLAIM_WORD_WRITE (R171): the WRITE's answer and effect are the word's; REFUSED for a word without a behaviour of its
own and for an unknown command code. -/
def execClaimWordWrite (n : Site) (word : Fin 16) (data : Word) (s : State) : Host.Outcome State Fault Refusal :=
  .next (s.onIdleLane n (s.claimWrite n word data))

end Sys2Proof.Machine
end

