-- ==== Sys2Proof/Machine/LaneFamily.lean ====
section
/-! DEFINITION. The lane commands (01): DAL_REQUEST, DIE_RESPONSE and the two expiries of the lane timer. -/

namespace Sys2Proof.Machine

/-- The transaction record of a forwarded request (R2), not observed. -/
def transactionOf (k : Kind) (a d : Address) (role : Role) (offset : Option Nat) : Transaction :=
  ⟨k, a, d, role, offset, false, false⟩

/-- The data a request sends downstream: a WRITE's alone (R12). -/
def Kind.data (k : Kind) (data : Word) : Option Word :=
  match k with
  | .read => none
  | .write => some data

/-- GUARD (R9, R131): raised, and answered by its mask without forwarding. -/
def State.guarded (s : State) (n : Site) (k : Kind) : State :=
  (s.raiseExc n .guard).answer n (if s.masked .guard then .ok else .refused)
    (if s.masked .guard && k == .read then some 0 else none)

/-- A request matched to a role (R9, R10, R11). A CLAIM range has been answered at the claim window (R9). -/
def State.byRole (s : State) (n : Site) (t : Transaction) (data : Word) : State :=
  match t.role with
  | .none => s.forward n t (t.kind.data data)
  | .guard => s.guarded n t.kind
  | .ident | .status | .check =>
    match t.kind with
    | .read => s.forward n { t with observed := true } none
    | .write => s.forward n t (some data)
  | .stage =>
    match t.kind with
    | .read => s.answer n .ok (some 0)
    | .write => s.stageWrite n t
  | .arm =>
    match t.kind with
    | .read => s.forward n t none
    | .write => if data = s.image.arm then s.armWrite n t else s.forward n t (some data)
  | .claim => s.answer n .refused

/-- Step 4 of classification (R4, R8): by lot state, then by role. -/
def State.byLot (s : State) (n : Site) (k : Kind) (a d : Address) (data : Word) : State :=
  match s.lot.state with
  | .unloaded => s.forward n (transactionOf k a d .none none) (k.data data)
  | .loading => s.answer n .retry
  | .opened | .draining | .closed | .halted =>
    s.byRole n (transactionOf k a d (s.window k d).1 (s.window k d).2) data

/-- Classification at an IDLE lane (R4): address check, claim window, contact, lot state and role. -/
def State.classify (s : State) (n : Site) (k : Kind) (a : Address) (data : Word) : State :=
  if !s.checkMode.passes a then (s.answer n .parity).raiseExc n .parity
  else
    let d := s.checkMode.dieAddress a
    match s.claimWord d with
    | some w =>
      match k with
      | .read => s.claimRead n w
      | .write => s.claimWrite n w data
    | none =>
      if s.timers[n].debouncer = .established then s.byLot n k a d data else s.answer n .detached

/-- A request at a lane (R4, R17): BUSY at a lane that is not IDLE, else classified. -/
def State.request (s : State) (n : Site) (k : Kind) (a : Address) (data : Word) : State :=
  if s.lanes[n].state = .idle then s.classify n k a data else s.busy n

/-- DAL_REQUEST (R4, R17): the request that the frame carries (R191). -/
def execDalRequest (n : Site) (kindByte : Byte) (address : Vector Byte 2) (data : List Byte) (s : State) :
    Host.Outcome State Fault Refusal :=
  let frame := requestFrame kindByte address data
  .next (s.request n (requestKind frame) (requestAddress frame) (requestData frame))

/-- The outcome given to the site engine for a die's answer (R13): the data of an OK READ. -/
def dieOutcome (k : Kind) (st : Status) (data : Word) : DieOutcome :=
  if st = .ok then .ok (match k with | .read => data | .write => 0) else .nak

/-- The data that goes upstream with a die's answer (R1, R10, R13): the die's on a READ answered OK, 0 for a CHECK READ. -/
def upstreamData (t : Transaction) (st : Status) (data : Word) : Option Word :=
  if st = .ok ∧ t.kind = .read then some (if t.role = .check then 0 else data) else none

/-- A die response at an OUTBOUND lane (R13): the site engine's whole reaction, then the answer. In `sent` a reel command
that the reaction starts (a CHECK commit's APPEND) stands before the answer (assumption log 25; DESIGN CHOICE). -/
def State.endTransaction (s : State) (n : Site) (t : Transaction) (st : Status) (data : Word) : State :=
  ((if t.observed then s.outcome n t (dieOutcome t.kind st data) else s).answer n st
    (upstreamData t st data)).setLane n Lane.idle

/-- DIE_RESPONSE (R13, R15, R19): the response that the frame carries (R191) ends the transaction of an OUTBOUND lane; at
any other lane it is discarded with LATE, and a lane in QUARANTINE becomes IDLE. -/
def execDieResponse (n : Site) (statusByte : Byte) (data : List Byte) (s : State) : Host.Outcome State Fault Refusal :=
  let frame := statusByte :: data
  .next (match s.lanes[n].state with
    | .outbound =>
      match s.lanes[n].transaction with
      | some t => s.endTransaction n t (responseStatus frame) (responseData frame)
      | none => s.setLane n Lane.idle
    | .quarantine => (s.raiseExc n .late).setLane n Lane.idle
    | .idle | .held => s.raiseExc n .late)

/-- RESPONSE_TIMER_EXPIRY (R14): the tick that brings the response timer of an OUTBOUND lane to its limit reaches the
lane; where no such tick can come, nothing happens (assumption log 3, 4). -/
def execResponseTimerExpiry (n : Site) (s : State) : Host.Outcome State Fault Refusal :=
  .next (if s.lanes[n].state = .outbound ∧ s.lanes[n].timer.lastTick then s.responseExpired n else s)

/-- QUIET_TIMER_EXPIRY (R15): the tick that brings the quiet timer of a lane in QUARANTINE to its limit. -/
def execQuietTimerExpiry (n : Site) (s : State) : Host.Outcome State Fault Refusal :=
  .next (if s.lanes[n].state = .quarantine ∧ s.lanes[n].timer.lastTick then s.quietExpired n else s)

end Sys2Proof.Machine
end

