-- ==== Sys2Proof/Machine/ReelFamily.lean ====
section
/-! DEFINITION. The reel and supply commands (03) and the lot controller's own events (R37, R38). -/

namespace Sys2Proof.Machine

/-- REEL_PRESENT_RISE (R50): ABSENT to SETTLING. The line rises in no other state (log 4). -/
def execReelPresentRise (s : State) : Host.Outcome State Fault Refusal :=
  .next (if s.supply.debouncer = .absent then { s with supply := { s.supply with debouncer := .settling } } else s)

/-- REEL_DEBOUNCE_END (R50): SETTLING to PRESENT, and reel arrival (R30). -/
def execReelDebounceEnd (s : State) : Host.Outcome State Fault Refusal :=
  .next (if s.supply.debouncer = .settling then
    { s with supply := { s.supply with debouncer := .present } }.reelArrival else s)

/-- REEL_PRESENT_FALL (R50): to ABSENT; from PRESENT it is a reel removal (R30, R51). -/
def execReelPresentFall (s : State) : Host.Outcome State Fault Refusal :=
  .next (match s.supply.debouncer with
    | .absent => s
    | .settling => { s with supply := { s.supply with debouncer := .absent } }
    | .present => { s with supply := { s.supply with debouncer := .absent } }.reelRemoval)

/-! ## Answers (R31, R53, R60 to R62), each at the port that carries its operation -/

/-- An image arrives (R31, R33): the load fails with TAG or FORMAT, or the lot opens. -/
def State.imageArrived (s : State) (bytes : Vector Byte 128) (tagPasses : Bool) : State :=
  if tagPasses then
    match parseImage bytes with
    | some im => (s.freePort.lotOpen im).finish
    | none => s.freePort.failLoad .format
  else s.freePort.failLoad .tag

/-- A key record arrives (R53): it goes to the unwrap unit, and the draw is in UNWRAP. -/
def State.recordArrived (s : State) (bytes : Vector Byte 62) : State :=
  { s.freePort with supply := { s.freePort.supply with
      draw := some .unwrap, unwrap := some (KeyRecord.ofBytes bytes) } }.finish

/-- END (R53): reel-exhausted is SET and the draw ends. -/
def State.reelEnded (s : State) : State :=
  { s.freePort.endDraw with supply := { s.freePort.endDraw.supply with exhausted := true } }.finish

/-- How many records the page on the port names. -/
def State.pageSize (s : State) : Nat := (s.supply.page.map List.length).getD 0

/-- The page's records leave the front of the log (R60, R152), the append failures return to 0, the port is FREE. -/
def State.confirmPage (s : State) : State :=
  { s.freePort with
    supply := { s.freePort.supply with appendFailures := 0 }
    log := { s.log with records := s.log.records.drop s.pageSize } }

/-- The lot reaches CLOSED (R39), with a LOT event. -/
def State.closeLot (s : State) : State :=
  { s with lot := { s.lot with state := .closed } }.alertEvent .lot none

/-- OK (R39, R60): the page is confirmed; the page that holds the CLOSE record closes a DRAINING lot. -/
def State.pageStored (s : State) : State :=
  if (s.log.records.take s.pageSize).any LogRecord.isClose ∧ s.lot.state = .draining then s.confirmPage.closeLot.finish
  else s.confirmPage.finish

/-- FAIL (R61): the same page again, or APPEND-FAIL at the third FAIL. -/
def State.pageFailed (s : State) : State :=
  if s.supply.appendFailures < 2 then
    { s with supply := { s.supply with appendFailures := s.supply.appendFailures + 1 } }.send
      (.reel (.append (s.log.records.take s.pageSize)))
  else (s.freePort.halt .appendFail).finish

/-- FULL (R62): LOG-SPACE. -/
def State.reelFull (s : State) : State := (s.freePort.halt .logSpace).finish

/-- A listed answer taken as the rule for its operation states (R46). -/
def State.takeAnswer (s : State) (tagPasses : Bool) : ReelAnswer → State
  | .image bytes => s.imageArrived bytes tagPasses
  | .absent => s.freePort.failLoad .absent
  | .record bytes => s.recordArrived bytes
  | .endOfReel => s.reelEnded
  | .appendOk => s.pageStored
  | .appendFail => s.pageFailed
  | .appendFull => s.reelFull

/-! ## The commands -/

/-- IMAGE_ANSWER (R31, R33). At a port that carries no IMAGE the answer is discarded (R46). -/
def execImageAnswer (a : ImageAnswer) (s : State) : Host.Outcome State Fault Refusal :=
  .next (if s.supply.port = .image then
    match a with
    | .absent => s.takeAnswer false .absent
    | .image bytes tagPasses => s.takeAnswer tagPasses (.image bytes)
    else s)

/-- FETCH_START (R52, R59): the arbiter grants FETCH where it stands to be granted. -/
def execFetchStart (s : State) : Host.Outcome State Fault Refusal :=
  .next (if s.grant = .fetch then s.startFetch.finish else s)

/-- FETCH_ANSWER (R53). Discarded where no FETCH is on the port (R46). -/
def execFetchAnswer (a : FetchAnswer) (s : State) : Host.Outcome State Fault Refusal :=
  .next (if s.supply.port = .fetch then
    match a with
    | .record bytes => s.takeAnswer false (.record bytes)
    | .endOfReel => s.takeAnswer false .endOfReel
    else s)

/-- A rejection (R55): a REJECT record on the fetch reservation, REJECTED raised, the draw ended. -/
def State.rejectKey (s : State) (serial : Serial) (reason : RejectReason) : State :=
  let s1 := (s.useRes (.reject serial reason)).raiseTally .rejected
  { s1 with supply := { s1.supply with draw := none, fetchReservation := false, unwrap := none } }

/-- An acceptance (R56): the highest accepted serial, FETCHED raised, the draw ended with its reservation released, the
key delivered to a waiting site or to the back of the pool. -/
def State.acceptKey (s : State) (e : KeyEntry) : State :=
  ((({ s with pool := { s.pool with highest := some e.serial } }).raiseTally .fetched).endDraw).deliver e false

/-- The ORDER check (R55): the serial is at or below the highest accepted serial, where there is one. -/
def State.outOfOrder (s : State) (serial : Serial) : Bool :=
  match s.pool.highest with
  | some h => serial.toNat ≤ h.toNat
  | none => false

/-- UNWRAP_COMPLETION (R54 to R56): the record in the unwrap unit is rejected or accepted. Nothing happens where the
unit is IDLE (log 4). -/
def execUnwrapCompletion (r : UnwrapResult) (s : State) : Host.Outcome State Fault Refusal :=
  .next (match s.supply.unwrap with
    | none => s
    | some k =>
      match r with
      | .tagFails => (s.rejectKey k.serial .tag).finish
      | .tagPasses key check =>
        if s.outOfOrder k.serial then (s.rejectKey k.serial .order).finish
        else (s.acceptKey ⟨k.serial, key, check⟩).finish)

/-- APPEND_START (R59, R60): the arbiter grants APPEND where it stands to be granted. -/
def execAppendStart (s : State) : Host.Outcome State Fault Refusal :=
  .next (if s.grant = .append then s.startAppend.finish else s)

/-- APPEND_OK (R39, R60). Discarded where no APPEND is on the port (R46). -/
def execAppendOk (s : State) : Host.Outcome State Fault Refusal :=
  .next (if s.supply.port = .append then s.takeAnswer false .appendOk else s)

/-- APPEND_FAIL (R61). -/
def execAppendFail (s : State) : Host.Outcome State Fault Refusal :=
  .next (if s.supply.port = .append then s.takeAnswer false .appendFail else s)

/-- APPEND_FULL (R62). -/
def execAppendFull (s : State) : Host.Outcome State Fault Refusal :=
  .next (if s.supply.port = .append then s.takeAnswer false .appendFull else s)

/-- REEL_SILENT (R31, R46, R63): the 100 ms pass without an answer. An IMAGE fails the load with REEL, a FETCH or an
APPEND halts the lot with REEL-SILENT. Nothing happens while the reel response timer is stopped (log 4, 5). -/
def execReelSilent (s : State) : Host.Outcome State Fault Refusal :=
  .next (match s.supply.port with
    | .free => s
    | .image => s.freePort.failLoad .reel
    | .fetch | .append => (s.freePort.halt .reelSilent).finish)

/-- DISCARDED_REEL_ANSWER (R46): bytes from the reel. Outside the transfer of the operation on the port, at a FREE port,
and where they are not listed for the command on the port (R192), they are discarded and the operation waits on. Bytes that
are a listed answer within the transfer are that answer, whichever row brings them (assumption log 23). -/
def execDiscardedReelAnswer (b : ReelBytes) (s : State) : Host.Outcome State Fault Refusal :=
  .next (if b.inTransfer then
    match ReelAnswer.ofBytes s.supply.port b.bytes with
    | some a => s.takeAnswer b.tagPasses a
    | none => s
    else s)

/-- UNUSED_SPOIL (R37). -/
def execUnusedSpoil (s : State) : Host.Outcome State Fault Refusal :=
  .next (if s.unusedDue then s.spoilUnused.finish else s)

/-- CLOSE_RECORD (R38). -/
def execCloseRecord (s : State) : Host.Outcome State Fault Refusal :=
  .next (if s.closeDue then s.queueClose.finish else s)

end Sys2Proof.Machine
end

