-- ==== Sys2Proof/Machine/ResetFamily.lean ====
section
/-! DEFINITION. The two resets (R22), which differ only in the reset cause they record. -/

namespace Sys2Proof.Machine

/-- POWER_ON (R22). -/
def execPowerOn (s : State) : Host.Outcome State Fault Refusal := .next (s.resetBy .power)

/-- RESET_LINE (R22). -/
def execResetLine (s : State) : Host.Outcome State Fault Refusal := .next (s.resetBy .line)

end Sys2Proof.Machine
end

