-- ==== Sys2Proof/Machine/TimeFamily.lean ====
section
/-! DEFINITION. The time and contact commands (06): TICK, the CONTACT line's events, and the expiries of the site
timers. An expiry row is the tick's delivery to that one element, ahead of the others (assumption log 3). -/

namespace Sys2Proof.Machine

/-- Every element that counts ticks counts one (R111, R112). -/
def State.countTick (s : State) : State :=
  { s with
    timers := Vector.ofFn fun n : Site =>
      let t := s.timers[n]
      ⟨t.debouncer.count, t.keyWait.count, t.dwell.count, t.watchdog.count⟩
    lanes := Vector.ofFn fun n : Site => { s.lanes[n] with timer := s.lanes[n].timer.count } }

/-- The completions and expiries the tick has brought at one site and lane. Each is taken where it still stands: an
expiry taken earlier in the tick may have stopped the timer. An expiry is taken whole: what the part starts by it
(`State.finish`) comes before the tick's next expiry, and not once at the tick's end (assumption log 26; DESIGN
CHOICE). -/
def State.expireAt (s : State) (n : Site) : State :=
  let s1 := if s.timers[n].debouncer.reached s.debounce then s.establish n else s
  let s2 := if s1.timers[n].keyWait.reached then s1.keyWaitExpired n else s1
  let s3 := if s2.timers[n].dwell.reached then s2.dwellExpired n else s2
  let s4 := if s3.timers[n].watchdog.reached then s3.watchdogExpired n else s3
  if s4.lanes[n].timer.reached then
    match s4.lanes[n].state with
    | .outbound => s4.responseExpired n
    | .quarantine => s4.quietExpired n
    | .idle | .held => s4
  else s4

/-- TICK (R111, R112): every debouncer and timer counts, then what has reached its limit expires in the same event,
site by site, each with what it starts (assumption logs 3 and 26). -/
def execTick (s : State) : Host.Outcome State Fault Refusal :=
  .next ((List.finRange 8).foldl State.expireAt s.countTick)

/-- CONTACT_RISE (R115): LOW to SETTLING with the count at 0. The line rises in no other state (log 4). -/
def execContactRise (n : Site) (s : State) : Host.Outcome State Fault Refusal :=
  .next (if s.timers[n].debouncer = .low then s.setTimers n { s.timers[n] with debouncer := .settling 0 } else s)

/-- CONTACT_DEBOUNCE_COMPLETE (R115): the tick that brings a settling debouncer to the debounce. -/
def execContactDebounceComplete (n : Site) (s : State) : Host.Outcome State Fault Refusal :=
  .next (if s.timers[n].debouncer.count.reached s.debounce then s.establish n else s)

/-- CONTACT_FALL (R115, R18, R105): LOW; an ESTABLISHED contact is lost to the lane and the site engine together. -/
def execContactFall (n : Site) (s : State) : Host.Outcome State Fault Refusal :=
  .next (match s.timers[n].debouncer with
    | .low => s
    | .settling _ => s.setTimers n { s.timers[n] with debouncer := .low }
    | .established => ((s.setTimers n { s.timers[n] with debouncer := .low }).laneLoss n).siteLoss n)

/-- KEY_WAIT_EXPIRY (R118): the tick that brings a waiting site's key-wait timer to its limit. -/
def execKeyWaitExpiry (n : Site) (s : State) : Host.Outcome State Fault Refusal :=
  .next (if s.timers[n].keyWait.lastTick then s.keyWaitExpired n else s)

/-- DWELL_EXPIRY (R121): the tick that brings a site's dwell timer to its limit. -/
def execDwellExpiry (n : Site) (s : State) : Host.Outcome State Fault Refusal :=
  .next (if s.timers[n].dwell.lastTick then s.dwellExpired n else s)

/-- PROGRAM_WATCHDOG_EXPIRY (R124): the tick that brings a site's program watchdog to its limit. -/
def execProgramWatchdogExpiry (n : Site) (s : State) : Host.Outcome State Fault Refusal :=
  .next (if s.timers[n].watchdog.lastTick then s.watchdogExpired n else s)

end Sys2Proof.Machine
end

