-- ==== Sys2Proof/Machine/Dispatch.lean ====
section
/-! DEFINITION. One arm per command. -/

namespace Sys2Proof.Machine

def exec (i : Instr) (s : State) : Host.Outcome State Fault Refusal :=
  match i with
  | .dalRequest lane kindByte address data => Sys2Proof.Machine.execDalRequest lane kindByte address data s
  | .dieResponse lane statusByte data => Sys2Proof.Machine.execDieResponse lane statusByte data s
  | .responseTimerExpiry lane => Sys2Proof.Machine.execResponseTimerExpiry lane s
  | .quietTimerExpiry lane => Sys2Proof.Machine.execQuietTimerExpiry lane s
  | .tick => Sys2Proof.Machine.execTick s
  | .contactRise site => Sys2Proof.Machine.execContactRise site s
  | .contactDebounceComplete site => Sys2Proof.Machine.execContactDebounceComplete site s
  | .contactFall site => Sys2Proof.Machine.execContactFall site s
  | .keyWaitExpiry site => Sys2Proof.Machine.execKeyWaitExpiry site s
  | .dwellExpiry site => Sys2Proof.Machine.execDwellExpiry site s
  | .programWatchdogExpiry site => Sys2Proof.Machine.execProgramWatchdogExpiry site s
  | .reelPresentRise => Sys2Proof.Machine.execReelPresentRise s
  | .reelDebounceEnd => Sys2Proof.Machine.execReelDebounceEnd s
  | .reelPresentFall => Sys2Proof.Machine.execReelPresentFall s
  | .imageAnswer answer => Sys2Proof.Machine.execImageAnswer answer s
  | .fetchStart => Sys2Proof.Machine.execFetchStart s
  | .fetchAnswer answer => Sys2Proof.Machine.execFetchAnswer answer s
  | .unwrapCompletion result => Sys2Proof.Machine.execUnwrapCompletion result s
  | .appendStart => Sys2Proof.Machine.execAppendStart s
  | .appendOk => Sys2Proof.Machine.execAppendOk s
  | .appendFail => Sys2Proof.Machine.execAppendFail s
  | .appendFull => Sys2Proof.Machine.execAppendFull s
  | .reelSilent => Sys2Proof.Machine.execReelSilent s
  | .discardedReelAnswer bytes => Sys2Proof.Machine.execDiscardedReelAnswer bytes s
  | .unusedSpoil => Sys2Proof.Machine.execUnusedSpoil s
  | .closeRecord => Sys2Proof.Machine.execCloseRecord s
  | .load lane => Sys2Proof.Machine.execLoad lane s
  | .close lane => Sys2Proof.Machine.execClose lane s
  | .release lane siteArg => Sys2Proof.Machine.execRelease lane siteArg s
  | .lowest lane siteArg => Sys2Proof.Machine.execLowest lane siteArg s
  | .mask lane kindArg on => Sys2Proof.Machine.execMask lane kindArg on s
  | .clearChecked lane siteArg => Sys2Proof.Machine.execClearChecked lane siteArg s
  | .clearUnchecked lane siteArg => Sys2Proof.Machine.execClearUnchecked lane siteArg s
  | .alertTake lane => Sys2Proof.Machine.execAlertTake lane s
  | .alertEndNonSpecific lane => Sys2Proof.Machine.execAlertEndNonSpecific lane s
  | .alertEndSpecific lane source => Sys2Proof.Machine.execAlertEndSpecific lane source s
  | .alertMask lane data => Sys2Proof.Machine.execAlertMask lane data s
  | .exceptionMask lane data => Sys2Proof.Machine.execExceptionMask lane data s
  | .viewSelect lane page index => Sys2Proof.Machine.execViewSelect lane page index s
  | .viewData lane => Sys2Proof.Machine.execViewData lane s
  | .tallyLatch lane => Sys2Proof.Machine.execTallyLatch lane s
  | .tally lane which => Sys2Proof.Machine.execTally lane which s
  | .claimWordWrite lane word data => Sys2Proof.Machine.execClaimWordWrite lane word data s
  | .powerOn => Sys2Proof.Machine.execPowerOn s
  | .resetLine => Sys2Proof.Machine.execResetLine s

end Sys2Proof.Machine
end

