-- ==== Sys2Proof/Safety.lean ====
section
/-! DEFINITION. What the manual says holds of the part at every moment: the invariants the statements are about. The
parts of each are decidable. -/

namespace Sys2Proof.Machine

/-- A timer is running. -/
def Timer.isRunning : Timer → Bool
  | .stopped => false
  | .running _ _ => true

/-- The site states that hold a key binding (R82). -/
def SiteState.holdsKey : SiteState → Bool
  | .staging | .armed | .programmed => true
  | .vacant | .ready | .blanked | .finished | .fault => false

/-- The number of waiting sites. -/
def State.waiters (s : State) : Nat := s.pool.waiting.toList.countP id

/-- R75: the ring is an order of all eight sites, each once. -/
abbrev State.RingOk (s : State) : Prop := s.pool.ring.Nodup ∧ ∀ n : Site, n ∈ s.pool.ring

/-- R2, R11: the transaction record is present exactly in OUTBOUND and HELD, the lane timer runs exactly in OUTBOUND and
QUARANTINE, and a held request is a STAGE write. -/
abbrev Lane.Ok (l : Lane) : Prop :=
  (l.transaction.isSome ↔ l.state = .outbound ∨ l.state = .held) ∧
  (l.timer.isRunning ↔ l.state = .outbound ∨ l.state = .quarantine) ∧
  (l.state = .held → ∀ t ∈ l.transaction, t.kind = .write ∧ t.role = .stage)

abbrev State.LanesOk (s : State) : Prop := ∀ n : Site, s.lanes[n].Ok

/-- R161: every source on the in-service list is of higher priority than each one placed before it. -/
abbrev State.InServiceOk (s : State) : Prop :=
  s.alert.inService.Pairwise (fun a b => b.priority < a.priority)

/-- R82, R104, R105 at one site: a binding exactly in STAGING, ARMED and PROGRAMMED, the suspect flag exactly in ARMED,
captured words only in PROGRAMMED, VACANT exactly without established contact. -/
abbrev State.SiteOk (s : State) (n : Site) : Prop :=
  (s.sites[n].binding.isSome ↔ s.sites[n].state.holdsKey) ∧
  (s.sites[n].suspect ↔ s.sites[n].state = .armed) ∧
  (s.sites[n].state = .programmed ∨ s.sites[n].capture = Vector.replicate 2 none) ∧
  (s.sites[n].state = .vacant ↔ s.timers[n].debouncer ≠ .established)

/-- R72, R117, R120, R123 at one site: it waits exactly while its lane is HELD and only in READY, its key-wait timer
runs exactly while it waits, the dwell timer exactly in STAGING, the watchdog exactly in ARMED. -/
abbrev State.WaitOk (s : State) (n : Site) : Prop :=
  (s.pool.waiting[n] ↔ s.lanes[n].state = .held) ∧
  (s.pool.waiting[n] → s.sites[n].state = .ready) ∧
  (s.timers[n].keyWait.isRunning ↔ s.pool.waiting[n]) ∧
  (s.timers[n].dwell.isRunning ↔ s.sites[n].state = .staging) ∧
  (s.timers[n].watchdog.isRunning ↔ s.sites[n].state = .armed)

/-- R89, R93 at one site: a key with a word in its stage set is exposed, and the key of an ARMED or PROGRAMMED site is
exposed with no word in flight. -/
abbrev State.BurnOk (s : State) (n : Site) : Prop :=
  ∀ b ∈ s.sites[n].binding,
    (b.stageSet.toList.any id → b.exposed) ∧
    (s.sites[n].state ≠ .staging → b.exposed ∧ b.inFlight = none)

/-- R81, R88 at one site: a key word in flight is that of the observed STAGE write on the OUTBOUND lane. -/
abbrev State.FlightOk (s : State) (n : Site) : Prop :=
  ∀ b ∈ s.sites[n].binding, ∀ o ∈ b.inFlight, s.lanes[n].state = .outbound ∧
    ∀ t ∈ s.lanes[n].transaction, t.role = .stage ∧ t.observed ∧ t.stageOffset = o

/-- R44: the fetch reservation is present exactly while the draw is, a draw in TRANSFER is a FETCH on the port, a draw
in UNWRAP is a BUSY unwrap unit, the page is named exactly while APPEND is on the port, the reel response timer runs
exactly while the port is not FREE, and the append failures are at most 2. -/
abbrev State.SupplyOk (s : State) : Prop :=
  (s.supply.fetchReservation ↔ s.supply.draw.isSome) ∧
  (s.supply.draw = some .transfer ↔ s.supply.port = .fetch) ∧
  (s.supply.draw = some .unwrap ↔ s.supply.unwrap.isSome) ∧
  (s.supply.page.isSome ↔ s.supply.port = .append) ∧
  (s.supply.timerRunning ↔ s.supply.port ≠ .free) ∧
  s.supply.appendFailures ≤ 2

/-- R21, R24, R37, R38, R42, R46: what each lot state says of the other blocks. A halt cause exactly in HALTED, a load
error only in UNLOADED, an image held wherever one is in force, IMAGE on the port exactly in LOADING, nothing waiting
outside OPEN; no key, no record and no reservation in UNLOADED, LOADING and CLOSED. -/
abbrev State.LotOk (s : State) : Prop :=
  (s.lot.haltCause ≠ .none ↔ s.lot.state = .halted) ∧
  (s.lot.loadError ≠ .none → s.lot.state = .unloaded) ∧
  (s.lot.state.imageInForce → s.lot.image.isSome) ∧
  (s.supply.port = .image ↔ s.lot.state = .loading) ∧
  (s.lot.state = .opened ∨ s.lot.state = .draining ∨ s.supply.port = .free ∨ s.supply.port = .image) ∧
  (s.lot.state = .opened ∨ s.lot.state = .draining ∨ s.supply.draw = none) ∧
  (s.lot.state = .opened ∨ s.waiters = 0) ∧
  (s.lot.state = .opened ∨ s.lot.state = .draining ∨ s.lot.state = .halted ∨
    (s.pool.deque = [] ∧ s.bindings = 0 ∧ s.log.records = [] ∧ s.log.reservations = 0))

/-- R65: the deque never holds a key while a site waits. -/
abbrev State.PoolOk (s : State) : Prop := s.waiters = 0 ∨ s.pool.deque = []

/-- R142: records held plus reservations never exceed 16. -/
abbrev State.LogRoom (s : State) : Prop := s.log.records.length + s.log.reservations ≤ 16

/-- R149: the reservations are one for each binding, each waiting site and the draw. -/
abbrev State.ReservationsOk (s : State) : Prop := s.log.reservations = s.bindings + s.waiters + s.draws

/-- R66: the keys in the pool, in bindings and in the draw are at most 32. -/
abbrev State.KeysFit (s : State) : Prop := s.pool.deque.length + s.bindings + s.draws ≤ 32

/-- R186: FETCHED is the keys in the pool, plus the bindings, plus COMMITTED, plus SPOILED. -/
abbrev State.Balanced (s : State) : Prop :=
  s.tallies.fetched = s.pool.deque.length + s.bindings + s.tallies.committed + s.tallies.spoiled

/-- R52, R184: FETCHED and the draw stay within the lot ceiling while an image is in force, and a ceiling is 24 bits. -/
abbrev State.CeilingOk (s : State) : Prop :=
  s.tallies.fetched + s.draws < 2 ^ 24 ∧ s.image.ceiling < 2 ^ 24

/-- R144: the records held carry consecutive sequence numbers, the newest one below the next sequence. -/
def seqsBelow : List LogRecord → Word → Prop
  | [], _ => True
  | r :: rs, next => r.seq = next - BitVec.ofNat 32 (rs.length + 1) ∧ seqsBelow rs next

/-- R152: the page on the port names the records at the front of the log. -/
abbrev State.PageOk (s : State) : Prop :=
  ∀ p ∈ s.supply.page, 1 ≤ p.length ∧ p.length ≤ 4 ∧ p = (s.log.records.map LogRecord.seq).take p.length

/-- R38, R151: only the newest record can be the CLOSE record, and it stands in the log of a drained lot only. -/
abbrev State.CloseOk (s : State) : Prop :=
  s.log.records.dropLast.any LogRecord.isClose = false ∧
  (s.log.records.any LogRecord.isClose →
    s.lot.closeQueued ∧ s.drained ∧ (s.lot.state = .draining ∨ s.lot.state = .halted))

/-- R67: no serial is held in two places, and none held is above the highest accepted serial. -/
def State.heldSerials (s : State) : List Serial :=
  s.pool.deque.map KeyEntry.serial ++ s.sites.toList.filterMap (fun c => c.binding.map Binding.serial)

abbrev State.SerialsOk (s : State) : Prop :=
  s.heldSerials.Nodup ∧ ∀ x ∈ s.heldSerials, ∃ h ∈ s.pool.highest, x.toNat ≤ h.toNat

/-- R58, R146, R151: nothing that starts in the event of its cause is left waiting: at a FREE port nothing is wanted, no
UNUSED spoil is due and no CLOSE record is due. -/
abbrev State.Settled (s : State) : Prop :=
  (s.supply.port = .free → s.fetchWanted = false ∧ s.appendWanted = false) ∧
  s.unusedDue = false ∧ s.closeDue = false

/-- R158: the latch of a condition source that is not in service is its condition. -/
abbrev State.LatchesFollow (s : State) : Prop :=
  ∀ src : Source, src ∈ Source.all → src.isCondition → src ∉ s.alert.inService →
    s.alert.requested src = s.condition src

/-- R176: every view pointer's index is below its page's length. -/
abbrev State.PointersOk (s : State) : Prop := ∀ n : Site, s.pointers[n].index < s.pointers[n].page.length

/-- R26, R94: a held image's retry limit is 1 to 4, and no site's attempts exceed it; a site in STAGING has one attempt
left, and so has an ARMED site whose ARM write is in flight. -/
abbrev State.AttemptsOk (s : State) : Prop :=
  s.image.retryLimit ≤ 4 ∧ (∀ im ∈ s.lot.image, 1 ≤ im.retryLimit) ∧
  ∀ n : Site, s.sites[n].attempts ≤ s.image.retryLimit ∧
    (s.sites[n].state = .staging → s.sites[n].attempts < s.image.retryLimit) ∧
    (s.sites[n].state = .armed → ∀ t ∈ s.lanes[n].transaction, t.arm → s.sites[n].attempts < s.image.retryLimit)

/-- R23, R26 (checks 1 and 3): every field of a lot image lies in its range, and the status values are three. -/
abbrev LotImage.FieldsOk (im : LotImage) : Prop :=
  (1 ≤ im.responseLimit ∧ im.responseLimit ≤ 1023 ∧ im.keyWaitLimit ≤ 1023 ∧ 1 ≤ im.dwellLimit ∧
    im.dwellLimit ≤ 65535 ∧ 1 ≤ im.watchdogLimit ∧ im.watchdogLimit ≤ 65535 ∧ 1 ≤ im.debounce ∧ im.debounce ≤ 255 ∧
    1 ≤ im.retryLimit ∧ im.retryLimit ≤ 4 ∧ im.refillLevel ≤ 31 ∧ im.lowLevel ≤ 31 ∧ 1 ≤ im.ceiling ∧
    im.ceiling ≤ 16777215 ∧ im.tickCode ≤ 7) ∧
  (im.busy ≠ im.done ∧ im.busy ≠ im.fail ∧ im.done ≠ im.fail)

/-- R25, R26 (checks 2, 6 and 7) of one entry: length and access by role, the range below the top of the die address
space, an entry of role NONE kept with base 0, length 0 and access absent. -/
abbrev WindowEntry.Ok (mode : CheckMode) (e : WindowEntry) : Prop :=
  (e.role = .none → e = ⟨.none, 0, 0, none⟩) ∧
  (e.role = .ident → e.length = 4) ∧ (e.role = .stage → e.length = 8) ∧ (e.role = .arm → e.length = 1) ∧
  (e.role = .status → e.length = 1) ∧ (e.role = .check → e.length = 2) ∧ (e.role = .claim → e.length = 16) ∧
  (e.role = .guard → 1 ≤ e.length ∧ e.length ≤ 256) ∧
  (e.access.isSome ↔ e.role = .guard) ∧
  (e.role ≠ .none → e.base.toNat + e.length - 1 ≤ if mode = .none then 0xFFFF else 0x7FFF)

/-- R26, checks 4, 5, 8 and 9: one entry of each single role, at most ten GUARD entries, CLAIM apart from every other
entry, and the five site roles apart from one another. -/
abbrev LotImage.TableOk (im : LotImage) : Prop :=
  (∀ r ∈ [Role.ident, .stage, .arm, .status, .check, .claim], im.table.toList.countP (·.role = r) = 1) ∧
  im.table.toList.countP (·.role = .guard) ≤ 10 ∧
  (∀ i j : Fin 16, i ≠ j → im.table[i].role ≠ .none → im.table[j].role ≠ .none →
    im.table[i].base.toNat ≤ im.table[j].base.toNat →
    im.table[j].base.toNat < im.table[i].base.toNat + im.table[i].length →
    im.table[i].role ≠ .claim ∧ im.table[j].role ≠ .claim ∧
    (im.table[i].role = .guard ∨ im.table[j].role = .guard))

/-- Load validation (R26), all nine checks. -/
abbrev LotImage.Valid (im : LotImage) : Prop :=
  im.FieldsOk ∧ (∀ i : Fin 16, im.table[i].Ok im.checkMode) ∧ im.TableOk

/-- R23, R26, R12, R15: a held image is valid, and a running lane timer has a limit of at least 1. -/
abbrev State.ImageOk (s : State) : Prop :=
  (∀ im ∈ s.lot.image, im.Valid) ∧ ∀ n : Site, s.lanes[n].timer.isRunning → 1 ≤ s.lanes[n].timer.limit

/-- The invariants about sites, lanes, keys, the log and the port together. -/
structure State.Coherent (s : State) : Prop where
  ring : s.RingOk
  lanes : s.LanesOk
  sites : ∀ n : Site, s.SiteOk n
  waits : ∀ n : Site, s.WaitOk n
  burns : ∀ n : Site, s.BurnOk n
  flights : ∀ n : Site, s.FlightOk n
  supply : s.SupplyOk
  lot : s.LotOk
  pool : s.PoolOk
  room : s.LogRoom
  reservations : s.ReservationsOk
  fit : s.KeysFit
  balance : s.Balanced
  ceiling : s.CeilingOk
  page : s.PageOk
  close : s.CloseOk

/-! ## Words the statements use -/

/-- The four data bytes of a frame (R191), most significant byte first. -/
def dataBytes (data : Word) : List Byte :=
  [data.extractLsb' 24 8, data.extractLsb' 16 8, data.extractLsb' 8 8, data.extractLsb' 0 8]

/-- DAL_REQUEST of a request packed as R191 says: the address field in bytes 1 and 2, and, where the kind byte's bit 0 says
WRITE, the data in bytes 3 to 6, most significant byte first. -/
def requestOf (n : Site) (kindByte : Byte) (a : Address) (data : Word) : Instr :=
  .dalRequest n kindByte #v[a.extractLsb' 8 8, a.extractLsb' 0 8]
    (match Kind.ofByte kindByte with
      | .read => []
      | .write => dataBytes data)

/-- Word i of a lot image: bytes 4i to 4i + 3, most significant first (R190, R192). -/
def imageWordAt (bytes : Vector Byte 128) (i : Fin 32) : Word :=
  bytes[4 * i.val] ++ bytes[4 * i.val + 1] ++ bytes[4 * i.val + 2] ++ bytes[4 * i.val + 3]

/-- The elements of a site and its lane that count ticks (R111). -/
inductive TickElement where
  | debounce | keyWait | dwell | watchdog | lane
  deriving DecidableEq, Repr

/-- The next tick brings an element of a site to its limit (R112, R115). -/
def State.reachesLimit (s : State) (n : Site) : TickElement → Bool
  | .debounce => s.timers[n].debouncer.count.reached s.debounce
  | .keyWait => s.timers[n].keyWait.lastTick
  | .dwell => s.timers[n].dwell.lastTick
  | .watchdog => s.timers[n].watchdog.lastTick
  | .lane => s.lanes[n].timer.lastTick

/-- The row that is an element's completion or expiry: the lane timer is the response timer in OUTBOUND and the quiet timer
elsewhere (R2). -/
def State.expiryRow (s : State) (n : Site) : TickElement → Instr
  | .debounce => .contactDebounceComplete n
  | .keyWait => .keyWaitExpiry n
  | .dwell => .dwellExpiry n
  | .watchdog => .programWatchdogExpiry n
  | .lane => if s.lanes[n].state = .outbound then .responseTimerExpiry n else .quietTimerExpiry n

/-- The lane that carries a request: DAL_REQUEST and every row of the claim window (R6, R171). -/
def requestLane : Instr → Option Site
  | .dalRequest n _ _ _ | .load n | .close n | .release n _ | .lowest n _ | .mask n _ _ | .clearChecked n _
  | .clearUnchecked n _ | .alertTake n | .alertEndNonSpecific n | .alertEndSpecific n _ | .alertMask n _
  | .exceptionMask n _ | .viewSelect n _ _ | .viewData n | .tallyLatch n | .tally n _ | .claimWordWrite n _ _ => some n
  | .dieResponse _ _ _ | .responseTimerExpiry _ | .quietTimerExpiry _ | .tick
  | .contactRise _ | .contactDebounceComplete _ | .contactFall _
  | .keyWaitExpiry _ | .dwellExpiry _ | .programWatchdogExpiry _
  | .reelPresentRise | .reelDebounceEnd | .reelPresentFall
  | .imageAnswer _ | .fetchStart | .fetchAnswer _ | .unwrapCompletion _
  | .appendStart | .appendOk | .appendFail | .appendFull | .reelSilent | .discardedReelAnswer _
  | .unusedSpoil | .closeRecord | .powerOn | .resetLine => none

/-- The row of the table that a claim-window request is (R171, R174, R193); none for a READ that has no row. -/
def rowOfClaimRequest (n : Site) (k : Kind) (word : Fin 16) (data : Word) : Option Instr :=
  let arg : Byte := BitVec.ofNat 8 (data.toNat % 256)
  match k, word.val with
  | .read, 3 => some (.alertTake n)
  | .read, 8 => some (.viewData n)
  | .read, 10 => some (.tally n .fetched)
  | .read, 11 => some (.tally n .rejected)
  | .read, 12 => some (.tally n .committed)
  | .read, 13 => some (.tally n .spoiled)
  | .read, 14 => some (.tally n .blanked)
  | .read, _ => none
  | .write, 2 =>
    match data.toNat / 2 ^ 24 with
    | 1 => some (.load n)
    | 2 => some (.close n)
    | 3 => some (.release n arg)
    | 4 => some (.lowest n arg)
    | 5 => some (.mask n arg (data.getLsbD 8))
    | 6 => some (.clearChecked n arg)
    | 7 => some (.clearUnchecked n arg)
    | _ => some (.claimWordWrite n word data)
  | .write, 4 =>
    if data.getLsbD 31 then some (.alertEndSpecific n (BitVec.ofNat 3 (data.toNat % 8)))
    else some (.alertEndNonSpecific n)
  | .write, 5 => some (.alertMask n data)
  | .write, 6 => some (.exceptionMask n data)
  | .write, 7 => some (.viewSelect n (BitVec.ofNat 4 (data.toNat / 256 % 16)) (BitVec.ofNat 8 (data.toNat % 256)))
  | .write, 9 => some (.tallyLatch n)
  | .write, _ => some (.claimWordWrite n word data)

/-- A request at an IDLE lane that passes the address check and names no claim word (R4, steps 1 and 2). -/
abbrev State.PassesWindow (s : State) (n : Site) (a : Address) : Prop :=
  s.lanes[n].state = .idle ∧ s.checkMode.passes a = true ∧ s.claimWord (s.checkMode.dieAddress a) = none

/-- A request that reaches step 4 of R4 in a lot state with a table in force, and its match there (R9). -/
abbrev State.ReachesRole (s : State) (n : Site) (k : Kind) (a : Address) (role : Role) (offset : Option Nat) : Prop :=
  s.PassesWindow n a ∧ s.timers[n].debouncer = .established ∧ s.lot.state.imageInForce = true ∧
  s.window k (s.checkMode.dieAddress a) = (role, offset)

/-- A bind trigger in OPEN that passes its tests (R85) and for which the log can lend a reservation (R68). -/
abbrev State.ClaimsKey (s : State) (n : Site) (a : Address) (o : Nat) : Prop :=
  s.ReachesRole n .write a .stage (some o) ∧ s.sites[n].state = .ready ∧ s.lot.state = .opened ∧
  (s.image.identRequired = true → s.sites[n].ident.toList.all Option.isSome = true) ∧
  s.log.records.length + s.log.reservations < 16

/-- A site given zeros in place of a key (R87): the BLANK record on its reservation, BLANKED raised, the site BLANKED. -/
def State.blanked (s : State) (n : Site) : State :=
  { s with
    log := ⟨s.log.records ++ [⟨s.log.nextSeq, .blank n s.sites[n].ident⟩], s.log.reservations - 1, s.log.nextSeq + 1⟩
    tallies := s.tallies.raise .blanked
    sites := s.sites.set n { s.sites[n] with state := .blanked, lastOutcome := .blank } }

/-- The transaction record of a request on its way downstream (R2). -/
def State.record (s : State) (k : Kind) (a : Address) (role : Role) (offset : Option Nat) (observed arm : Bool) :
    Transaction :=
  ⟨k, a, s.checkMode.dieAddress a, role, offset, observed, arm⟩

/-- The part with its key words, its expected checks and what it has put on its ports left out (R92). -/
def State.withoutKeys (s : State) : State :=
  let noKey : KeyWords := Vector.replicate 8 0
  let noCheck : CheckWords := Vector.replicate 2 0
  { s with
    supply := { s.supply with unwrap := s.supply.unwrap.map fun k => { k with wrappedCheck := 0, wrappedKey := 0, tag := 0 } }
    pool := { s.pool with deque := s.pool.deque.map fun e => { e with key := noKey, check := noCheck } }
    sites := Vector.ofFn fun n : Site =>
      { s.sites[n] with
        binding := s.sites[n].binding.map fun b => { b with key := noKey, check := noCheck }
        capture := Vector.replicate 2 none }
    sent := [] }

end Sys2Proof.Machine
end

