-- ==== Sys2Proof/WellFormed.lean ====
section
/-! DEFINITION. What a command must satisfy to be an event the manual describes. The machine gives a meaning to every
command, well-formed or not; these checks say which ones a DAL partner sends and which row a claim-word write is of. -/

namespace Sys2Proof

/-- A WRITE that CLAIM_WORD_WRITE's row speaks of (R171): to a word without a write behaviour of its own, or to the
COMMAND word with a code that names no command (R174, test 1). -/
def Instr.isBareClaimWrite (word : Fin 16) (data : Word) : Bool :=
  word.val ∈ [0, 1, 3, 8, 10, 11, 12, 13, 14, 15] ||
  (word.val == 2 && ((data >>> 24).toNat == 0 || 7 < (data >>> 24).toNat))

/-- A request frame as a tester sends it (R191): a READ of 3 bytes or a WRITE of 7, bits 7 to 1 of the kind byte 0. -/
def Instr.isRequestFrame (kindByte : Byte) (data : List Byte) : Bool :=
  (kindByte.toNat == 0 && data.length == 0) || (kindByte.toNat == 1 && data.length == 4)

/-- A response frame as a die sends it (R1, R191): OK or NAK, with or without 4 data bytes. That a READ answered OK has
them is not the frame's alone to say. -/
def Instr.isResponseFrame (statusByte : Byte) (data : List Byte) : Bool :=
  statusByte.toNat ≤ 1 && (data.length == 0 || data.length == 4)

/-- Well-formed commands: frames are as R191 packs them, and a CLAIM_WORD_WRITE is of its row. Every other operand is
well-formed by its type. -/
def Instr.wellFormed : Instr → Bool
  | .dalRequest _ kindByte _ data => Instr.isRequestFrame kindByte data
  | .dieResponse _ statusByte data => Instr.isResponseFrame statusByte data
  | .claimWordWrite _ word data => Instr.isBareClaimWrite word data
  | .responseTimerExpiry _ | .quietTimerExpiry _ | .tick
  | .contactRise _ | .contactDebounceComplete _ | .contactFall _
  | .keyWaitExpiry _ | .dwellExpiry _ | .programWatchdogExpiry _
  | .reelPresentRise | .reelDebounceEnd | .reelPresentFall
  | .imageAnswer _ | .fetchStart | .fetchAnswer _ | .unwrapCompletion _
  | .appendStart | .appendOk | .appendFail | .appendFull | .reelSilent | .discardedReelAnswer _
  | .unusedSpoil | .closeRecord
  | .load _ | .close _ | .release _ _ | .lowest _ _ | .mask _ _ _ | .clearChecked _ _ | .clearUnchecked _ _
  | .alertTake _ | .alertEndNonSpecific _ | .alertEndSpecific _ _ | .alertMask _ _ | .exceptionMask _ _
  | .viewSelect _ _ _ | .viewData _ | .tallyLatch _ | .tally _ _
  | .powerOn | .resetLine => true

end Sys2Proof
end

