-- ==== Sys2Proof/Certificates/Slice0/Obligations.lean ====
section
/-! DEFINITION. The statements for the provers. Where a statement says what a command does, its conclusion is the next
state whole, so it is the frame as well: a field that the conclusion does not name is as it was. `State.finish` stands for
what the part starts by itself at the end of an event; `FinishKeepsTheRest` and the statements after it say what that is. -/

open Sys2Proof Sys2Proof.Machine

/-! ## The queue and the resets -/

/-- A step takes the command at the front of the queue and runs it on the state with the queue's rest. On an empty queue
the part idles, which is the model's choice (assumption log 2). -/
def Obligations.StepRunsFrontCommand : Prop :=
  (∀ (c : Instr) (rest : List Instr) (s : State), s.pending = c :: rest →
    step s = exec c { s with pending := rest }) ∧
  (∀ s : State, s.pending = [] → step s = .next s)

/-- Every command, in every state, answers a next state, and leaves the queue as it is. The model's choices in it: the
queue (assumption log 22), a command whose event the state at hand cannot bring, which changes nothing (log 4), and a
command in a state that no run reaches, which the model's total operations take (log 16). -/
def Obligations.EveryCommandAnswersNext : Prop :=
  ∀ (c : Instr) (s : State), ∃ t, exec c s = .next t ∧ t.pending = s.pending

/-- Power-on and the RESET line give every block its Default (00_scope 5.4; R44, R45, R81 and R107 beside the cited
rules), and the debouncers their state from their lines' levels (high in every state of a debouncer but LOW and
ABSENT). They differ in the reset cause alone. That a line's level at the reset is read off its debouncer is the
model's (assumption logs 11 and 14). -/
def Obligations.ResetsGiveEveryDefault : Prop :=
  ∀ (s : State) (c : Instr) (cause : ResetCause),
    (c = .powerOn ∧ cause = .power) ∨ (c = .resetLine ∧ cause = .line) →
    ∃ t, exec c s = .next t ∧
      t.lot = ⟨.unloaded, none, .none, .none, cause, false⟩ ∧
      t.supply = ⟨.free, false, none, false, none, none, 0, false,
        if s.supply.debouncer = .absent then .absent else .settling⟩ ∧
      t.pool = ⟨[], Vector.replicate 8 false, [0, 1, 2, 3, 4, 5, 6, 7], none⟩ ∧
      (∀ n : Site,
        t.sites[n] = ⟨.vacant, Vector.replicate 4 none, none, 0, Vector.replicate 2 none, false, .none⟩ ∧
        t.timers[n] = ⟨if s.timers[n].debouncer = .low then .low else .settling 0, .stopped, .stopped, .stopped⟩ ∧
        t.lanes[n] = ⟨.idle, .stopped, none⟩ ∧
        t.exc.sticky[n] = Vector.replicate 7 false ∧ t.pointers[n] = ⟨.lot, 0⟩ ∧ t.latches[n] = none) ∧
      t.exc.mask = Vector.replicate 7 true ∧
      t.log = ⟨[], 0, 1⟩ ∧
      t.alert = ⟨Vector.replicate 8 false,
        ⟨Vector.replicate 8 false, Vector.replicate 8 false, Vector.replicate 8 false, Vector.replicate 8 false⟩,
        Vector.replicate 8 false, [], false⟩ ∧
      t.tallies = ⟨0, 0, 0, 0, 0⟩ ∧
      t.checkMode = .none ∧ t.tickPeriod = 10 ∧ t.responseLimit = 100 ∧ t.debounce = 10 ∧ t.alertLine = false

/-- The invariants hold right after power-on and right after the RESET line, whatever came before, and in the model's
first state. -/
def Obligations.InvariantsHoldAfterReset : Prop :=
  ∀ t : State, (t = State.reset ∨ ∃ s : State, exec .powerOn s = .next t ∨ exec .resetLine s = .next t) →
    t.Coherent ∧ t.AttemptsOk ∧ t.ImageOk ∧ t.PointersOk ∧ t.InServiceOk ∧ t.SerialsOk ∧
    seqsBelow t.log.records t.log.nextSeq ∧ t.Settled ∧ t.LatchesFollow

/-! ## Lanes: requests (01) -/

/-- The address check (R3, R5): which mode is in force, what passes, and the die address. A request that fails it:
PARITY upstream and raised, the lane stays IDLE, nothing else. In UNLOADED and LOADING no request fails it. -/
def Obligations.AddressCheck : Prop :=
  ((∀ s : State, (s.lot.state = .unloaded ∨ s.lot.state = .loading → s.checkMode = .none) ∧
     (s.lot.state = .opened ∨ s.lot.state = .draining ∨ s.lot.state = .closed ∨ s.lot.state = .halted →
       ∀ im, s.lot.image = some im → s.checkMode = im.checkMode)) ∧
   (∀ a : Address,
     (CheckMode.none.passes a = true ∧ CheckMode.none.dieAddress a = a) ∧
     (CheckMode.even.passes a = true ↔ ((List.range 16).filter (a.getLsbD ·)).length % 2 = 0) ∧
     (CheckMode.odd.passes a = true ↔ ((List.range 16).filter (a.getLsbD ·)).length % 2 = 1) ∧
     (CheckMode.even.dieAddress a).toNat = a.toNat % 0x8000 ∧
     (CheckMode.odd.dieAddress a).toNat = a.toNat % 0x8000)) ∧
  ((∀ (s : State) (n : Site) (kindByte : Byte) (a : Address) (data : Word),
     s.lanes[n].state = .idle → s.checkMode.passes a = false →
     exec (requestOf n kindByte a data) s = .next ((s.answer n .parity).raiseExc n .parity)) ∧
   (∀ (s : State) (a : Address), s.lot.state = .unloaded ∨ s.lot.state = .loading → s.checkMode.passes a = true))

/-- A request at a lane that is not IDLE (R17), of DAL_REQUEST or of any claim window row: BUSY upstream, OVERLAP
raised, nothing else; the lane's state, record and timer are untouched. A request that is no claim-window request, at
a site without established contact (R7): DETACHED upstream, nothing else, in every lot state. -/
def Obligations.NonIdleLanesAndDetachedSites : Prop :=
  (∀ (c : Instr) (n : Site) (s : State), requestLane c = some n → s.lanes[n].state ≠ .idle →
    exec c s = .next ((s.answer n .busy).raiseExc n .overlap)) ∧
  (∀ (s : State) (n : Site) (kindByte : Byte) (a : Address) (data : Word),
    s.PassesWindow n a → s.timers[n].debouncer ≠ .established →
    exec (requestOf n kindByte a data) s = .next (s.answer n .detached))

/-- What forwarding is (R12): the request goes downstream with its address field as received, and the lane is OUTBOUND
with the transaction recorded and the response timer from zero with the limit in force: the image's, or 100 ticks.
Frames (R191): an arriving READ has 3 bytes and a WRITE 7, bit 0 of byte 0 the kind, bytes 1 and 2 the address field,
bytes 3 to 6 the data; a die's byte 0 is its status, 0 for OK and any other for NAK, bytes 1 to 4 its data. The frames
the part sends are packed alike, and their status codes are 0 to 7. -/
def Obligations.ForwardingAndFrames : Prop :=
  (∀ (s : State) (n : Site) (t : Transaction) (data : Option Word),
    s.forward n t data =
      { s with
        sent := s.sent ++ [.downstream n ⟨t.kind, t.addressField, data⟩]
        lanes := s.lanes.set n ⟨.outbound, .running 0 s.responseLimit, some t⟩ }) ∧
  (∀ s : State, (s.lot.state = .unloaded ∨ s.lot.state = .loading → s.responseLimit = 100) ∧
    (s.lot.state = .opened ∨ s.lot.state = .draining ∨ s.lot.state = .closed ∨ s.lot.state = .halted →
      ∀ im, s.lot.image = some im → s.responseLimit = im.responseLimit)) ∧
  (∀ (s : State) (n : Site) (b0 b1 b2 : Byte) (rest : List Byte),
    let frame : List Byte := b0 :: b1 :: b2 :: rest
    exec (.dalRequest n b0 #v[b1, b2] rest) s =
      .next (s.request n (requestKind frame) (requestAddress frame) (requestData frame))) ∧
  (∀ b0 b1 b2 b3 b4 b5 b6 : Byte,
    (b0.getLsbD 0 = false →
      requestKind [b0, b1, b2] = .read ∧ requestAddress [b0, b1, b2] = b1 ++ b2 ∧
      (∀ n data, requestOf n b0 (b1 ++ b2) data = .dalRequest n b0 #v[b1, b2] [])) ∧
    (b0.getLsbD 0 = true →
      requestKind [b0, b1, b2, b3, b4, b5, b6] = .write ∧ requestAddress [b0, b1, b2, b3, b4, b5, b6] = b1 ++ b2 ∧
      requestData [b0, b1, b2, b3, b4, b5, b6] = b3 ++ b4 ++ b5 ++ b6 ∧
      ∀ n, requestOf n b0 (b1 ++ b2) (b3 ++ b4 ++ b5 ++ b6) = .dalRequest n b0 #v[b1, b2] [b3, b4, b5, b6]) ∧
    (∀ rest, responseStatus (b0 :: rest) = if b0 = 0 then .ok else .nak) ∧
    responseData [b0, b1, b2, b3, b4] = b1 ++ b2 ++ b3 ++ b4 ∧
    (∀ data, (Request.mk .read (b1 ++ b2) data).bytes = [0, b1, b2]) ∧
    (Request.mk .write (b1 ++ b2) (some (b3 ++ b4 ++ b5 ++ b6))).bytes = [1, b1, b2, b3, b4, b5, b6] ∧
    (Response.mk .ok (some (b1 ++ b2 ++ b3 ++ b4))).bytes = [0, b1, b2, b3, b4] ∧
    (∀ st : Status, ∃ code : Byte, (Response.mk st none).bytes = [code] ∧ code.toNat = st.code ∧ code.toNat ≤ 7))

/-- Requests before a lot is open (R8): in UNLOADED forwarded unchanged with role NONE and unobserved, in LOADING
answered RETRY. Requests that the lane handles by role alone, in OPEN, DRAINING, CLOSED and HALTED (R9, R10):
forwarded unchanged, observed for a READ of IDENT, STATUS and CHECK alone; a STAGE READ is answered OK with data 0. -/
def Obligations.RequestsByLotStateAndRole : Prop :=
  (∀ (s : State) (n : Site) (kindByte : Byte) (a : Address) (data : Word),
     s.PassesWindow n a → s.timers[n].debouncer = .established →
     (s.lot.state = .unloaded →
       exec (requestOf n kindByte a data) s =
         .next (s.forward n (s.record (Kind.ofByte kindByte) a .none none false false)
           (if Kind.ofByte kindByte = .read then none else some data))) ∧
     (s.lot.state = .loading → exec (requestOf n kindByte a data) s = .next (s.answer n .retry))) ∧
  (∀ (s : State) (n : Site) (kindByte : Byte) (a : Address) (data : Word) (role : Role) (offset : Option Nat),
     s.ReachesRole n (Kind.ofByte kindByte) a role offset →
     (Kind.ofByte kindByte = .read → role = .none ∨ role = .arm →
       exec (requestOf n kindByte a data) s =
         .next (s.forward n (s.record .read a role offset false false) none)) ∧
     (Kind.ofByte kindByte = .read → role = .ident ∨ role = .status ∨ role = .check →
       exec (requestOf n kindByte a data) s =
         .next (s.forward n (s.record .read a role offset true false) none)) ∧
     (Kind.ofByte kindByte = .read → role = .stage →
       exec (requestOf n kindByte a data) s = .next (s.answer n .ok (some 0))) ∧
     (Kind.ofByte kindByte = .write →
       role = .none ∨ role = .ident ∨ role = .status ∨ role = .check ∨ (role = .arm ∧ data ≠ s.image.arm) →
       exec (requestOf n kindByte a data) s =
         .next (s.forward n (s.record .write a role offset false false) (some data))))

/-- A request covered by a GUARD entry (R131): GUARD raised and nothing forwarded; masked, a READ is answered OK with
data 0 and a WRITE OK; strict, REFUSED. -/
def Obligations.GuardedRequests : Prop :=
  ∀ (s : State) (n : Site) (kindByte : Byte) (a : Address) (data : Word) (offset : Option Nat),
    s.ReachesRole n (Kind.ofByte kindByte) a .guard offset →
    exec (requestOf n kindByte a data) s =
      .next (if s.masked .guard
        then (s.raiseExc n .guard).answer n .ok (if Kind.ofByte kindByte = .read then some 0 else none)
        else (s.raiseExc n .guard).answer n .refused)

/-! ## Lanes: the claim window (10) -/

/-- The claim window in force (R6, R170): the sixteen addresses from 0xFFF0 in UNLOADED and LOADING, and the sixteen
from the base of the table's first CLAIM entry in the four other lot states. The window match (R9): the lowest-index
entry, of role other than NONE, whose range holds the die address, passing over a GUARD entry whose access does not
cover the kind; role NONE where there is none. -/
def Obligations.WindowsInForce : Prop :=
  (∀ (s : State) (d : Address),
     (s.lot.state = .unloaded ∨ s.lot.state = .loading →
       ∀ w : Fin 16, s.claimWord d = some w ↔ d.toNat = 0xFFF0 + w.val) ∧
     (s.lot.state = .opened ∨ s.lot.state = .draining ∨ s.lot.state = .closed ∨ s.lot.state = .halted →
       ∀ i : Fin 16, s.image.table[i].role = .claim → (∀ j : Fin 16, j < i → s.image.table[j].role ≠ .claim) →
       ∀ w : Fin 16, s.claimWord d = some w ↔ d.toNat = s.image.table[i].base.toNat + w.val)) ∧
  (∀ (s : State) (k : Kind) (d : Address),
     let hit : Fin 16 → Prop := fun i =>
       s.image.table[i].role ≠ .none ∧
       s.image.table[i].base.toNat ≤ d.toNat ∧ d.toNat < s.image.table[i].base.toNat + s.image.table[i].length ∧
       (s.image.table[i].role = .guard →
         s.image.table[i].access = some .both ∨
         (k = .read ∧ s.image.table[i].access = some .read) ∨ (k = .write ∧ s.image.table[i].access = some .write))
     (∀ i : Fin 16, hit i → (∀ j : Fin 16, j < i → ¬ hit j) →
       s.window k d = (s.image.table[i].role, some (d.toNat - s.image.table[i].base.toNat))) ∧
     ((∀ i : Fin 16, ¬ hit i) → s.window k d = (.none, none)))

/-- A request for a claim word is the row that its word and data name (R6, R171, R174, R193), and a READ without a row
is answered OK with the word's value, which changes nothing. A WRITE to a claim word without a write behaviour, or of
a command code that names none, is answered REFUSED and changes nothing (R171, R174). -/
def Obligations.ClaimRequestsAreTheirRows : Prop :=
  (∀ (s : State) (n : Site) (kindByte : Byte) (a : Address) (data : Word) (w : Fin 16),
     s.lanes[n].state = .idle → s.checkMode.passes a = true → s.claimWord (s.checkMode.dieAddress a) = some w →
     (∀ c, rowOfClaimRequest n (Kind.ofByte kindByte) w data = some c →
       exec (requestOf n kindByte a data) s = exec c s) ∧
     (rowOfClaimRequest n (Kind.ofByte kindByte) w data = none →
       ∃ v : Word, exec (requestOf n kindByte a data) s = .next (s.answer n .ok (some v)) ∧
         (w = 0 → v = 0x3A90B801) ∧ (w = 1 → v = s.lotStateWord) ∧ (w = 2 ∨ w = 4 ∨ w = 9 → v = 0) ∧
         (w = 5 → ∀ i : Fin 32, v.getLsbD i = if h : i.val < 8 then s.alert.mask[(⟨i.val, h⟩ : Fin 8)] else false) ∧
         (w = 6 → ∀ i : Fin 32, v.getLsbD i = if h : i.val < 7 then s.exc.mask[(⟨i.val, h⟩ : Fin 7)] else false) ∧
         (w = 7 → s.PointersOk → v.toNat = s.pointers[n].page.code * 256 + s.pointers[n].index) ∧
         (w = 15 → v = s.siteSummary))) ∧
  (∀ (s : State) (n : Site) (w : Fin 16) (data : Word), s.lanes[n].state = .idle →
     Instr.isBareClaimWrite w data = true →
     exec (.claimWordWrite n w data) s = .next (s.answer n .refused))

/-- LOT STATE and SITE SUMMARY as packed (R172, R173, R193), with the codes of R190, and the SITE page's words (R179,
R193), bit by bit: the field at bit lo holds the value's bits, and the bits of words 0 and 1 that belong to no field
read 0. -/
def Obligations.StatusAndSiteWords : Prop :=
  (∀ s : State,
     (s.lotStateWord.toNat = s.lot.state.code + 16 * s.lot.haltCause.code + 256 * s.lot.loadError.code +
       4096 * s.lot.resetCause.code + 65536 * (if s.supply.exhausted then 1 else 0)) ∧
     (∀ n : Site, s.siteSummary.toNat / 16 ^ n.val % 16 =
       match s.sites[n].state with
       | .vacant => 0 | .ready => if s.pool.waiting[n] then 2 else 1 | .staging => 3 | .blanked => 4
       | .armed => 5 | .programmed => 6 | .finished => 7 | .fault => 8)) ∧
  (∀ (s : State) (n : Site), s.AttemptsOk →
     let holds : Nat → Nat → Nat → Prop := fun lo width v =>
       ∀ i, i < width → (s.pageWord (.site n) 0).getLsbD (lo + i) = v.testBit i
     (holds 0 4 (s.siteCode n) ∧ holds 4 1 (bit s.pool.waiting[n]) ∧ holds 5 2 s.lanes[n].state.code ∧
       holds 7 1 (bit s.sites[n].binding.isSome) ∧
       (∀ b, s.sites[n].binding = some b →
         holds 8 4 (b.stageSet.toList.countP id) ∧ holds 12 1 (bit b.exposed) ∧
         s.pageWord (.site n) 6 = (b.serial.setWidth 64 >>> 32).setWidth 32 ∧
         s.pageWord (.site n) 7 = b.serial.setWidth 32) ∧
       (s.sites[n].binding = none →
         holds 8 4 0 ∧ holds 12 1 0 ∧ s.pageWord (.site n) 6 = 0 ∧ s.pageWord (.site n) 7 = 0) ∧
       holds 13 3 s.sites[n].attempts ∧ holds 16 3 s.sites[n].lastOutcome.code ∧
       holds 19 3 s.sites[n].lastOutcome.reasonCode ∧
       (∀ i : Fin 4, holds (24 + i.val) 1 (bit s.sites[n].ident[i].isSome) ∧
         s.pageWord (.site n) (2 + i.val) = s.sites[n].ident[i].getD 0)) ∧
     (∀ i ∈ [22, 23, 28, 29, 30, 31], (s.pageWord (.site n) 0).getLsbD i = false) ∧
     (∀ k : Fin 7, (s.pageWord (.site n) 1).getLsbD k.val = s.exc.sticky[n][k]) ∧
     (∀ i, 7 ≤ i → (s.pageWord (.site n) 1).getLsbD i = false))

/-! ## Sites: binding, staging, arming (05) -/

/-- STAGE writes that bind no key. The tests of a bind trigger (R85, R68): ORDER where a required ident is incomplete,
KEYLESS where the lot is not OPEN, RETRY where the log cannot lend; each answered without a change of site, pool or log.
Other site states (R88, R91): substituted in STAGING, forwarded with data 0 in BLANKED, refused with ORDER in ARMED,
PROGRAMMED, FINISHED and FAULT; in every lot state with a table in force. -/
def Obligations.StageWritesWithoutABind : Prop :=
  (∀ (s : State) (n : Site) (kindByte : Byte) (a : Address) (data : Word) (o : Nat),
     Kind.ofByte kindByte = .write → s.ReachesRole n .write a .stage (some o) → s.sites[n].state = .ready →
     (s.image.identRequired = true ∧ s.sites[n].ident.toList.all Option.isSome = false →
       exec (requestOf n kindByte a data) s = .next ((s.raiseExc n .order).answer n .refused)) ∧
     (¬(s.image.identRequired = true ∧ s.sites[n].ident.toList.all Option.isSome = false) → s.lot.state ≠ .opened →
       exec (requestOf n kindByte a data) s = .next ((s.raiseExc n .keyless).answer n .refused)) ∧
     (¬(s.image.identRequired = true ∧ s.sites[n].ident.toList.all Option.isSome = false) → s.lot.state = .opened →
       16 ≤ s.log.records.length + s.log.reservations →
       exec (requestOf n kindByte a data) s = .next (s.answer n .retry))) ∧
  (∀ (s : State) (n : Site) (kindByte : Byte) (a : Address) (data : Word) (o : Fin 8),
     Kind.ofByte kindByte = .write → s.ReachesRole n .write a .stage (some o.val) →
     (∀ b, s.sites[n].state = .staging → s.sites[n].binding = some b →
       exec (requestOf n kindByte a data) s =
         .next (State.forward
           { s with sites := s.sites.set n { s.sites[n] with binding := some { b with inFlight := some o } } }
           n (s.record .write a .stage (some o.val) true false) (some b.key[o]))) ∧
     (s.sites[n].state = .blanked →
       exec (requestOf n kindByte a data) s =
         .next (s.forward n (s.record .write a .stage (some o.val) true false) (some 0))) ∧
     (s.sites[n].state = .armed ∨ s.sites[n].state = .programmed ∨ s.sites[n].state = .finished ∨
         s.sites[n].state = .fault →
       exec (requestOf n kindByte a data) s = .next ((s.raiseExc n .order).answer n .refused)))

/-- A bind claim that finds the deque non-empty (R68, R86): the front key is bound, a reservation is lent, the site
is STAGING with an empty stage set and the write's offset in flight, the dwell timer starts, and the write goes out
with the key's word for its offset. That the forwarded write stands in `sent` before a reel command of the same
event is the model's (assumption log 25). -/
def Obligations.BindTakesTheFrontKey : Prop :=
  ∀ (s : State) (n : Site) (kindByte : Byte) (a : Address) (data : Word) (o : Fin 8) (e : KeyEntry)
    (rest : List KeyEntry),
    Kind.ofByte kindByte = .write → s.ClaimsKey n a o.val → s.pool.deque = e :: rest →
    exec (requestOf n kindByte a data) s =
      .next (State.finish
        { s with
          pool := { s.pool with deque := rest }
          log := { s.log with reservations := s.log.reservations + 1 }
          sites := s.sites.set n
            { s.sites[n] with
              state := .staging
              binding := some ⟨e.serial, e.key, e.check, Vector.replicate 8 false, false, some o⟩
              attempts := 0
              capture := Vector.replicate 2 none
              suspect := false }
          timers := s.timers.set n { s.timers[n] with dwell := .running 0 s.image.dwellLimit }
          lanes := s.lanes.set n
            ⟨.outbound, .running 0 s.responseLimit, some (s.record .write a .stage (some o.val) true false)⟩
          sent := s.sent ++ [.downstream n ⟨.write, a, some e.key[o]⟩] })

/-- A bind claim that finds the deque empty. With a key-wait limit other than 0 (R69): a reservation is lent, the
site joins the waiting set, its key-wait timer starts, and its lane is HELD with the write. With 0 (R70, R87, R130):
KEYLESS raised; masked, a BLANK record and the write with data 0; strict, REFUSED, with no reservation left out and
nothing else changed. That the record of a HELD lane has the observed flag set is the model's (assumption log 17).
So is the place of the lane's frame in `sent` before a reel command of the same event (log 25). -/
def Obligations.BindOnAnEmptyDeque : Prop :=
  (∀ (s : State) (n : Site) (kindByte : Byte) (a : Address) (data : Word) (o : Nat),
     Kind.ofByte kindByte = .write → s.ClaimsKey n a o → s.pool.deque = [] → s.image.keyWaitLimit ≠ 0 →
     exec (requestOf n kindByte a data) s =
       .next (State.finish
         { s with
           pool := { s.pool with waiting := s.pool.waiting.set n true }
           log := { s.log with reservations := s.log.reservations + 1 }
           timers := s.timers.set n { s.timers[n] with keyWait := .running 0 s.image.keyWaitLimit }
           lanes := s.lanes.set n ⟨.held, .stopped, some (s.record .write a .stage (some o) true false)⟩ })) ∧
  (∀ (s : State) (n : Site) (kindByte : Byte) (a : Address) (data : Word) (o : Nat),
     Kind.ofByte kindByte = .write → s.ClaimsKey n a o → s.pool.deque = [] → s.image.keyWaitLimit = 0 →
     exec (requestOf n kindByte a data) s =
       .next (if s.masked .keyless
         then ((State.blanked (s.raiseExc n .keyless).lend n).forward n
           (s.record .write a .stage (some o) true false) (some 0)).finish
         else ((s.raiseExc n .keyless).answer n .refused).finish))

/-- An ARM write that carries the arm value (R93): forwarded, and the site ARMED with the suspect flag SET, the dwell timer
stopped and the watchdog started, exactly from STAGING with a complete stage set in OPEN or DRAINING; refused with ORDER
in every other case, with nothing changed at the site. -/
def Obligations.ArmWritesAreChecked : Prop :=
  ∀ (s : State) (n : Site) (kindByte : Byte) (a : Address) (o : Option Nat),
    Kind.ofByte kindByte = .write → s.ReachesRole n .write a .arm o →
    (s.sites[n].state = .staging ∧ (∃ b, s.sites[n].binding = some b ∧ b.stageSet = Vector.replicate 8 true) ∧
        (s.lot.state = .opened ∨ s.lot.state = .draining) →
      exec (requestOf n kindByte a s.image.arm) s =
        .next (State.forward
          { s with
            sites := s.sites.set n { s.sites[n] with state := .armed, suspect := true }
            timers := s.timers.set n
              { s.timers[n] with dwell := .stopped, watchdog := .running 0 s.image.watchdogLimit } }
          n (s.record .write a .arm o true true) (some s.image.arm))) ∧
    (¬(s.sites[n].state = .staging ∧ (∃ b, s.sites[n].binding = some b ∧ b.stageSet = Vector.replicate 8 true) ∧
        (s.lot.state = .opened ∨ s.lot.state = .draining)) →
      exec (requestOf n kindByte a s.image.arm) s = .next ((s.raiseExc n .order).answer n .refused))

/-! ## Lanes: the end of a transaction (01) -/

/-- A die response at an OUTBOUND lane (R13, R10, R191), with data, or of the status byte alone where no data is
taken (R1): the site engine takes the outcome of an observed transaction, the status goes upstream, with data for a
READ answered OK alone, 0 in place of a CHECK READ's data, and the lane is IDLE. That a reel command which the
outcome starts stands in `sent` before the answer is the model's (assumption log 25). -/
def Obligations.DieResponseEndsTheTransaction : Prop :=
  ∀ (s : State) (n : Site) (statusByte : Byte) (data : Word) (bytes : List Byte) (t : Transaction),
    s.lanes[n].state = .outbound → s.lanes[n].transaction = some t →
    bytes = dataBytes data ∨ (bytes = [] ∧ (statusByte ≠ 0 ∨ t.kind = .write)) →
    exec (.dieResponse n statusByte bytes) s =
      .next (((if t.observed
          then s.outcome n t (if statusByte = 0 then .ok (if t.kind = .read then data else 0) else .nak)
          else s).answer n (if statusByte = 0 then .ok else .nak)
        (if statusByte = 0 ∧ t.kind = .read then some (if t.role = .check then 0 else data) else none)).setLane n
          ⟨.idle, .stopped, none⟩)

/-- A die response that answers no transaction (R15, R19), whatever its frame: discarded with LATE raised; a lane in
QUARANTINE becomes IDLE, one in IDLE or HELD stays as it is. -/
def Obligations.LateResponsesAreDiscarded : Prop :=
  ∀ (s : State) (n : Site) (statusByte : Byte) (bytes : List Byte),
    (s.lanes[n].state = .quarantine →
      exec (.dieResponse n statusByte bytes) s = .next ((s.raiseExc n .late).setLane n ⟨.idle, .stopped, none⟩)) ∧
    (s.lanes[n].state = .idle ∨ s.lanes[n].state = .held →
      exec (.dieResponse n statusByte bytes) s = .next (s.raiseExc n .late))

/-- The expiries of the lane timer (R14, R15). The response timer's: TIMEOUT upstream and raised, the outcome to the
site engine where the transaction is observed, QUARANTINE with the quiet timer from zero under the same limit. The
quiet timer's: the lane is IDLE. The row is the tick that reaches the limit (assumption log 3). -/
def Obligations.LaneTimerExpiries : Prop :=
  ∀ (s : State) (n : Site) (count limit : Nat), limit ≤ count + 1 →
    (∀ t, s.lanes[n] = ⟨.outbound, .running count limit, some t⟩ →
      exec (.responseTimerExpiry n) s =
        .next (State.setLane
          (if t.observed then ((s.answer n .timeout).raiseExc n .timeout).outcome n t .timeout
            else (s.answer n .timeout).raiseExc n .timeout)
          n ⟨.quarantine, .running 0 limit, none⟩)) ∧
    (s.lanes[n] = ⟨.quarantine, .running count limit, none⟩ →
      exec (.quietTimerExpiry n) s = .next (s.setLane n ⟨.idle, .stopped, none⟩))

/-! ## Sites: outcomes (05) -/

/-- Outcomes by lot state (R83, R106): in UNLOADED and LOADING no outcome, of any role, changes anything. IDENT and
STAGE outcomes in the other four (R84, R89): an IDENT OK at a READY site captures the word; the outcome of the
binding's word in flight ends it, OK adds the offset to the stage set and exposes the key, TIMEOUT exposes it, NAK
leaves both. -/
def Obligations.IdentAndStageOutcomes : Prop :=
  (∀ (s : State) (n : Site) (t : Transaction) (out : DieOutcome), s.lot.state = .unloaded ∨ s.lot.state = .loading →
    s.outcome n t out = s) ∧
  ∀ (s : State) (n : Site) (t : Transaction) (data : Word), s.lot.state ≠ .unloaded → s.lot.state ≠ .loading →
    (∀ i : Fin 4, t.role = .ident → t.offset = some i.val →
      s.outcome n t (.ok data) =
        (if s.sites[n].state = .ready
          then s.setSite n { s.sites[n] with ident := s.sites[n].ident.set i (some data) } else s) ∧
      s.outcome n t .nak = s ∧ s.outcome n t .timeout = s) ∧
    (∀ (i : Fin 8) (b : Binding), t.role = .stage → t.offset = some i.val → s.sites[n].binding = some b →
      (b.inFlight = some i →
        s.outcome n t (.ok data) = s.setSite n { s.sites[n] with
          binding := some { b with inFlight := none, stageSet := b.stageSet.set i true, exposed := true } } ∧
        s.outcome n t .nak = s.setSite n { s.sites[n] with binding := some { b with inFlight := none } } ∧
        s.outcome n t .timeout =
          s.setSite n { s.sites[n] with binding := some { b with inFlight := none, exposed := true } }) ∧
      (b.inFlight ≠ some i → ∀ out, s.outcome n t out = s)) ∧
    (t.role = .stage → s.sites[n].binding = none → ∀ out, s.outcome n t out = s)

/-- Outcomes of an ARM write forwarded under the arm check (R94), with an image in force: in ARMED, OK and TIMEOUT
raise the attempts by one, NAK brings STAGING back with suspect CLEAR, the watchdog stopped and the dwell timer from
zero; in any other state nothing. -/
def Obligations.ArmOutcomes : Prop :=
  ∀ (s : State) (n : Site) (t : Transaction) (data : Word), s.lot.state ≠ .unloaded → s.lot.state ≠ .loading →
    t.role = .arm → t.arm = true →
    (s.sites[n].state = .armed →
      s.outcome n t (.ok data) = s.setSite n { s.sites[n] with attempts := s.sites[n].attempts + 1 } ∧
      s.outcome n t .timeout = s.setSite n { s.sites[n] with attempts := s.sites[n].attempts + 1 } ∧
      s.outcome n t .nak =
        { s with
          sites := s.sites.set n { s.sites[n] with state := .staging, suspect := false }
          timers := s.timers.set n
            { s.timers[n] with dwell := .running 0 s.image.dwellLimit, watchdog := .stopped } }) ∧
    (s.sites[n].state ≠ .armed → ∀ out, s.outcome n t out = s)

/-- STATUS outcomes in ARMED (R95, R96, R97), with an image in force: done makes the site PROGRAMMED; fail brings
STAGING back below the retry limit and spoils the key BURN at it, with suspect CLEAR in the record; busy, no value,
NAK and TIMEOUT change nothing. -/
def Obligations.StatusOutcomes : Prop :=
  ∀ (s : State) (n : Site) (t : Transaction) (data : Word), s.lot.state ≠ .unloaded → s.lot.state ≠ .loading →
    t.role = .status →
    (s.sites[n].state ≠ .armed → ∀ out, s.outcome n t out = s) ∧
    (s.outcome n t .nak = s ∧ s.outcome n t .timeout = s) ∧
    (s.sites[n].state = .armed → s.image.done ≠ s.image.fail →
      (data &&& s.image.statusMask = s.image.done →
        s.outcome n t (.ok data) =
          { s with
            sites := s.sites.set n
              { s.sites[n] with state := .programmed, suspect := false, capture := Vector.replicate 2 none }
            timers := s.timers.set n { s.timers[n] with watchdog := .stopped } }) ∧
      (data &&& s.image.statusMask = s.image.fail → s.sites[n].attempts < s.image.retryLimit →
        s.outcome n t (.ok data) =
          { s with
            sites := s.sites.set n { s.sites[n] with state := .staging, suspect := false }
            timers := s.timers.set n
              { s.timers[n] with dwell := .running 0 s.image.dwellLimit, watchdog := .stopped } }) ∧
      (data &&& s.image.statusMask = s.image.fail → s.image.retryLimit ≤ s.sites[n].attempts →
        s.outcome n t (.ok data) =
          (State.spoil (s.setSite n { s.sites[n] with suspect := false }) n .burn .fault).finish) ∧
      (data &&& s.image.statusMask ≠ s.image.done → data &&& s.image.statusMask ≠ s.image.fail →
        s.outcome n t (.ok data) = s))

/-- CHECK outcomes (R98, R99, R100), with an image in force: an OK in PROGRAMMED captures the word; the first complete
pair is compared, equal words commit the key with a COMMIT record on the site's reservation and FINISHED, others spoil
it MISMATCH and FAULT. -/
def Obligations.CheckOutcomes : Prop :=
  ∀ (s : State) (n : Site) (t : Transaction) (data : Word) (i j : Fin 2) (b : Binding),
    s.lot.state ≠ .unloaded → s.lot.state ≠ .loading → t.role = .check → t.offset = some i.val → i ≠ j →
    (s.outcome n t .nak = s ∧ s.outcome n t .timeout = s) ∧
    (s.sites[n].state ≠ .programmed → s.outcome n t (.ok data) = s) ∧
    (s.sites[n].state = .programmed → s.sites[n].binding = some b →
      (s.sites[n].capture[j] = none →
        s.outcome n t (.ok data) =
          s.setSite n { s.sites[n] with capture := s.sites[n].capture.set i (some data) }) ∧
      (∀ other, s.sites[n].capture[j] = some other → data = b.check[i] ∧ other = b.check[j] →
        s.outcome n t (.ok data) = State.finish
          { s with
            log := ⟨s.log.records ++ [⟨s.log.nextSeq, .commit n b.serial s.sites[n].ident s.sites[n].attempts⟩],
              s.log.reservations - 1, s.log.nextSeq + 1⟩
            tallies := s.tallies.raise .committed
            sites := s.sites.set n
              { s.sites[n] with
                state := .finished, binding := none, capture := Vector.replicate 2 none, suspect := false,
                lastOutcome := .commit }
            timers := s.timers.set n { s.timers[n] with dwell := .stopped, watchdog := .stopped } }) ∧
      (∀ other, s.sites[n].capture[j] = some other → ¬(data = b.check[i] ∧ other = b.check[j]) →
        s.outcome n t (.ok data) = (s.spoil n .mismatch .fault).finish))

/-- A spoil with a site reason (R101): the SPOIL record with the site's ident words and its suspect flag on the site's
reservation, SPOILED raised, the binding zeroized, the state and last outcome, and the alert event with the site:
STALL and MISMATCH for their reasons, LOSS for the rest. A return (R77, R102): the binding ends with its dwell timer,
its reservation is released, and the key is delivered to a waiting site or to the front of the deque; no tally changes
and no record is written. A tally raised (R184, R185) is one more, standing still at 0xFFFF_FFFF, and no other tally
changes. -/
def Obligations.SpoilsAndReturns : Prop :=
  (∀ (s : State) (n : Site) (reason : SpoilReason) (next : SiteState) (b : Binding),
     s.sites[n].binding = some b → reason ≠ .unused →
     s.spoil n reason next =
       { s with
         log := ⟨s.log.records ++ [⟨s.log.nextSeq,
             .spoil (some n) b.serial reason s.sites[n].ident s.sites[n].suspect⟩],
           s.log.reservations - 1, s.log.nextSeq + 1⟩
         tallies := s.tallies.raise .spoiled
         sites := s.sites.set n
           { s.sites[n] with
             state := next, binding := none, capture := Vector.replicate 2 none, suspect := false,
             lastOutcome := .spoil reason }
         timers := s.timers.set n { s.timers[n] with dwell := .stopped, watchdog := .stopped }
         alert := s.alert.event
           (if reason = .stall then .stall else if reason = .mismatch then .mismatch else .loss) (some n) }) ∧
  (∀ (s : State) (n : Site) (next : SiteState) (b : Binding), s.sites[n].binding = some b →
     s.returnKey n next =
       State.deliver
         { s with
           log := { s.log with reservations := s.log.reservations - 1 }
           sites := s.sites.set n
             { s.sites[n] with
               state := next, binding := none, capture := Vector.replicate 2 none, suspect := false,
               lastOutcome := .returned }
           timers := s.timers.set n { s.timers[n] with dwell := .stopped, watchdog := .stopped } }
         ⟨b.serial, b.key, b.check⟩ true) ∧
  (∀ (t : Tallies) (which other : Tally),
     (t.raise which).get which = (if t.get which < 0xFFFFFFFF then t.get which + 1 else t.get which) ∧
     (other ≠ which → (t.raise which).get other = t.get other))

/-- A key that becomes available (R65, R73, R75): with no site waiting it joins the deque at its end; else the waiting
site that stands highest in the ring is bound with it, leaves the waiting set with its key-wait timer stopped, moves
to the lowest place of the ring, and its held write goes out with the key's word for its offset. -/
def Obligations.DeliveringAKey : Prop :=
  ∀ (s : State) (e : KeyEntry) (front : Bool),
    (s.RingOk → (∀ n : Site, s.pool.waiting[n] = false) →
      s.deliver e front =
        { s with pool := { s.pool with deque := if front then e :: s.pool.deque else s.pool.deque ++ [e] } }) ∧
    (∀ (above below : List Site) (n : Site) (t : Transaction), s.RingOk → s.pool.ring = above ++ n :: below →
      (∀ m ∈ above, s.pool.waiting[m] = false) → s.pool.waiting[n] = true → s.lanes[n].transaction = some t →
      s.deliver e front =
        { s with
          pool := { s.pool with waiting := s.pool.waiting.set n false, ring := above ++ below ++ [n] }
          sites := s.sites.set n
            { s.sites[n] with
              state := .staging
              binding := some ⟨e.serial, e.key, e.check, Vector.replicate 8 false, false, some t.stageOffset⟩
              attempts := 0
              capture := Vector.replicate 2 none
              suspect := false }
          timers := s.timers.set n
            { s.timers[n] with keyWait := .stopped, dwell := .running 0 s.image.dwellLimit }
          lanes := s.lanes.set n ⟨.outbound, .running 0 s.responseLimit, some { t with observed := true }⟩
          sent := s.sent ++ [.downstream n ⟨t.kind, t.addressField, some e.key[t.stageOffset]⟩] })

/-! ## Time and contact (06) -/

/-- A tick that brings no timer and no debouncer to its limit adds 1 to each running count and changes nothing else
(R111, R112, R114). One that brings a single element to its limit, a debouncer, a key-wait, dwell, watchdog or lane
timer: every running count rises, and that element's completion or expiry is taken in the same event, as its own row
takes it (R14, R15, R111, R112, R115, R118, R121, R124; that the row is the tick that reaches the limit is
assumption log 3). A tick that brings several is not this statement's (logs 3 and 26). -/
def Obligations.TickCountsAndExpiries : Prop :=
  (Timer.stopped.count = .stopped ∧ (∀ c l, (Timer.running c l).count = .running (c + 1) l) ∧
    Debouncer.low.count = .low ∧ (∀ c, (Debouncer.settling c).count = .settling (c + 1)) ∧
    Debouncer.established.count = .established) ∧
  (∀ (s : State) (n : Site),
    (s.reachesLimit n .debounce = true ↔ ∃ c, s.timers[n].debouncer = .settling c ∧ s.debounce ≤ c + 1) ∧
    (s.reachesLimit n .keyWait = true ↔ ∃ c l, s.timers[n].keyWait = .running c l ∧ l ≤ c + 1) ∧
    (s.reachesLimit n .dwell = true ↔ ∃ c l, s.timers[n].dwell = .running c l ∧ l ≤ c + 1) ∧
    (s.reachesLimit n .watchdog = true ↔ ∃ c l, s.timers[n].watchdog = .running c l ∧ l ≤ c + 1) ∧
    (s.reachesLimit n .lane = true ↔ ∃ c l, s.lanes[n].timer = .running c l ∧ l ≤ c + 1)) ∧
  (∀ s : State,
    let counted : State :=
      { s with
        timers := Vector.ofFn fun n : Site =>
          ⟨s.timers[n].debouncer.count, s.timers[n].keyWait.count, s.timers[n].dwell.count, s.timers[n].watchdog.count⟩
        lanes := Vector.ofFn fun n : Site => { s.lanes[n] with timer := s.lanes[n].timer.count } }
    ((∀ n e, s.reachesLimit n e = false) → exec .tick s = .next counted) ∧
    (∀ n e, s.Coherent → s.ImageOk → s.reachesLimit n e = true →
      (∀ m k, m ≠ n ∨ k ≠ e → s.reachesLimit m k = false) →
      exec .tick s = exec (s.expiryRow n e) counted))

/-- The CONTACT line (R104, R114, R115): a rise starts the debounce, a fall during it ends it without a report, and
its last tick establishes contact with a fresh READY context. The debounce is 10 ticks in UNLOADED and LOADING and the
image's elsewhere. CONTACT_DEBOUNCE_COMPLETE is the tick that ends the debounce, and no other element counts by it
(assumption log 3). -/
def Obligations.ContactLineAndDebounce : Prop :=
  (∀ (s : State) (n : Site),
    (s.timers[n].debouncer = .low →
      exec (.contactRise n) s = .next (s.setTimers n { s.timers[n] with debouncer := .settling 0 })) ∧
    (∀ c, s.timers[n].debouncer = .settling c →
      exec (.contactFall n) s = .next (s.setTimers n { s.timers[n] with debouncer := .low }) ∧
      (s.debounce ≤ c + 1 →
        exec (.contactDebounceComplete n) s = .next
          { s with
            timers := s.timers.set n { s.timers[n] with debouncer := .established }
            sites := s.sites.set n
              ⟨.ready, Vector.replicate 4 none, none, 0, Vector.replicate 2 none, false, .none⟩ }))) ∧
  (∀ s : State, (s.lot.state = .unloaded ∨ s.lot.state = .loading → s.debounce = 10) ∧
    (s.lot.state = .opened ∨ s.lot.state = .draining ∨ s.lot.state = .closed ∨ s.lot.state = .halted →
      ∀ im, s.lot.image = some im → s.debounce = im.debounce))

/-- Contact loss (R18, R105, R115): the lane answers DETACHED for a transaction in flight or held and is IDLE, and
in the same event the site is VACANT: a waiting site leaves the set with its reservation released, a key that some
die may hold is spoiled LIFT, and one that none holds is returned. That the check capture R105 keeps in a loss from
PROGRAMMED is the one the spoil has emptied (R101) is the model's reading (assumption log 20). So is DETACHED's
place in `sent` before a reel command of the same event (log 25). -/
def Obligations.ContactLoss : Prop :=
  ∀ (s : State) (n : Site), s.timers[n].debouncer = .established → s.lanes[n].Ok →
    let lost : State :=
      { s with
        timers := s.timers.set n { s.timers[n] with debouncer := .low }
        lanes := s.lanes.set n ⟨.idle, .stopped, none⟩
        sent := s.sent ++
          (if s.lanes[n].state = .outbound ∨ s.lanes[n].state = .held then [.upstream n ⟨.detached, none⟩] else []) }
    (s.sites[n].state = .vacant ∨ s.sites[n].state = .blanked ∨ s.sites[n].state = .finished ∨
        s.sites[n].state = .fault ∨ (s.sites[n].state = .ready ∧ s.pool.waiting[n] = false) →
      exec (.contactFall n) s = .next (lost.setSite n { s.sites[n] with state := .vacant })) ∧
    (s.sites[n].state = .ready → s.pool.waiting[n] = true →
      exec (.contactFall n) s = .next (State.finish
        { lost with
          pool := { s.pool with waiting := s.pool.waiting.set n false }
          timers := s.timers.set n { s.timers[n] with debouncer := .low, keyWait := .stopped }
          log := { s.log with reservations := s.log.reservations - 1 }
          sites := s.sites.set n { s.sites[n] with state := .vacant } })) ∧
    (∀ b, s.sites[n].state = .staging → s.sites[n].binding = some b →
      (b.exposed = true ∨ b.inFlight ≠ none → exec (.contactFall n) s = .next (lost.spoil n .lift .vacant).finish) ∧
      (b.exposed = false → b.inFlight = none → exec (.contactFall n) s = .next (lost.returnKey n .vacant).finish)) ∧
    (s.sites[n].state = .armed ∨ s.sites[n].state = .programmed →
      exec (.contactFall n) s = .next (lost.spoil n .lift .vacant).finish)

/-- Key-wait expiry (R118, R16, R87): the site leaves the waiting set and KEYLESS is raised; masked, the site is
BLANKED and its held write goes out with data 0; strict, the reservation is released and the held write REFUSED.
Dwell expiry and program watchdog expiry (R121, R124): the timer stops; a STAGING site's key is spoiled DWELL and
the site in FAULT where some die may hold of it, else returned and the site READY; an ARMED site's key is spoiled
STALL and the site in FAULT. Each row is the tick that reaches the limit (assumption log 3). That the held write's
frame stands in `sent` before a reel command of the same event is the model's (log 25). -/
def Obligations.SiteTimerExpiries : Prop :=
  (∀ (s : State) (n : Site) (count limit : Nat) (t : Transaction),
     s.timers[n].keyWait = .running count limit → limit ≤ count + 1 → s.pool.waiting[n] = true →
     s.lanes[n].transaction = some t →
     let gone : State :=
       { s.raiseExc n .keyless with
         pool := { s.pool with waiting := s.pool.waiting.set n false }
         timers := s.timers.set n { s.timers[n] with keyWait := .stopped } }
     exec (.keyWaitExpiry n) s =
       .next (if s.masked .keyless
         then ((gone.blanked n).forward n { t with observed := true } (some 0)).finish
         else State.finish
           { gone with
             log := { s.log with reservations := s.log.reservations - 1 }
             lanes := s.lanes.set n ⟨.idle, .stopped, none⟩
             sent := s.sent ++ [.upstream n ⟨.refused, none⟩] })) ∧
  (∀ (s : State) (n : Site) (count limit : Nat) (b : Binding), limit ≤ count + 1 → s.sites[n].binding = some b →
     let stopped : State := s.setTimers n { s.timers[n] with dwell := .stopped, watchdog := .stopped }
     (s.timers[n].dwell = .running count limit →
       (b.exposed = true ∨ b.inFlight ≠ none →
         exec (.dwellExpiry n) s = .next (stopped.spoil n .dwell .fault).finish) ∧
       (b.exposed = false → b.inFlight = none →
         exec (.dwellExpiry n) s = .next (stopped.returnKey n .ready).finish)) ∧
     (s.timers[n].watchdog = .running count limit →
       exec (.programWatchdogExpiry n) s = .next (stopped.spoil n .stall .fault).finish))

/-! ## The reel and the lot (02, 03) -/

/-- The REEL-PRESENT line (R30, R50, R51): a rise starts the window, a fall during it ends it without a report; the
window's end is a reel arrival, which starts a load in UNLOADED and changes no other lot state. A removal: no lot
change in UNLOADED and HALTED, the load fails with REEL in LOADING, UNLOADED under the boot parameters from CLOSED,
HALTED with REEL-LOST from OPEN and DRAINING. What new parameters in force do to timers (R20, R113): a running lane
timer starts again from zero with the response limit in force, a settling debouncer counts from zero, the site timers
stop. -/
def Obligations.ReelArrivalAndRemoval : Prop :=
  (∀ s : State,
     (s.supply.debouncer = .absent →
       exec .reelPresentRise s = .next { s with supply := { s.supply with debouncer := .settling } }) ∧
     (s.supply.debouncer = .settling →
       exec .reelPresentFall s = .next { s with supply := { s.supply with debouncer := .absent } } ∧
       (s.lot.state = .unloaded →
         exec .reelDebounceEnd s = .next
           { s with
             supply := { s.supply with debouncer := .present, port := .image, timerRunning := true }
             lot := { s.lot with state := .loading, loadError := .none }
             sent := s.sent ++ [.reel .image] }) ∧
       (s.lot.state ≠ .unloaded →
         exec .reelDebounceEnd s = .next { s with supply := { s.supply with debouncer := .present } }))) ∧
  (∀ s : State, s.supply.debouncer = .present →
     let gone : State := { s with supply := { s.supply with debouncer := .absent } }
     (s.lot.state = .unloaded ∨ s.lot.state = .halted → exec .reelPresentFall s = .next gone) ∧
     (s.lot.state = .loading →
       exec .reelPresentFall s = .next
         { s with
           supply := { s.supply with debouncer := .absent, port := .free, timerRunning := false, page := none }
           lot := { s.lot with state := .unloaded, loadError := .reel }
           alert := { s.alert with latch := s.alert.latch.set 7 true } }) ∧
     (s.lot.state = .closed →
       exec .reelPresentFall s = .next (State.retime { gone with lot := { s.lot with state := .unloaded } })) ∧
     (s.lot.state = .opened ∨ s.lot.state = .draining →
       exec .reelPresentFall s = .next (gone.halt .reelLost).finish)) ∧
  (∀ s : State,
     s.retime =
       { s with
         lanes := Vector.ofFn fun n : Site =>
           { s.lanes[n] with timer := if s.lanes[n].timer = .stopped then .stopped else .running 0 s.responseLimit }
         timers := Vector.ofFn fun n : Site =>
           ⟨if s.timers[n].debouncer = .low then .low
             else if s.timers[n].debouncer = .established then .established else .settling 0,
             .stopped, .stopped, .stopped⟩ })

/-- Lot open (R33, R150): an IMAGE answer whose tag passes and whose image passes validation puts the new image in
force, and every block makes its open-time change in the same event. A load that fails (R31): the load error by its
cause, UNLOADED with the held image kept, the port FREE, a LOT event. -/
def Obligations.ImageAnswers : Prop :=
  (∀ (s : State) (bytes : Vector Byte 128) (im : LotImage), s.supply.port = .image → parseImage bytes = some im →
     exec (.imageAnswer (.image bytes true)) s =
       .next (State.finish
         { s with
           lot := ⟨.opened, some im, .none, .none, s.lot.resetCause, false⟩
           supply := ⟨.free, false, none, false, none, none, 0, false, s.supply.debouncer⟩
           pool := ⟨[], Vector.replicate 8 false, s.pool.ring, none⟩
           sites := Vector.ofFn fun n : Site =>
             ⟨if s.timers[n].debouncer = .established then .ready else .vacant, Vector.replicate 4 none, none, 0,
               Vector.replicate 2 none, false, .none⟩
           timers := Vector.ofFn fun n : Site =>
             ⟨if s.timers[n].debouncer = .low then .low
               else if s.timers[n].debouncer = .established then .established else .settling 0,
               .stopped, .stopped, .stopped⟩
           lanes := Vector.ofFn fun n : Site =>
             { s.lanes[n] with timer := if s.lanes[n].timer = .stopped then .stopped else .running 0 im.responseLimit }
           exc := ⟨Vector.replicate 8 (Vector.replicate 7 false), im.excMask⟩
           log := ⟨[⟨1, .opened im.lotId⟩], 0, 2⟩
           alert := ⟨Vector.replicate 8 false,
             ⟨Vector.replicate 8 false, Vector.replicate 8 false, Vector.replicate 8 false, Vector.replicate 8 false⟩,
             im.alertMask, [], im.autoEnd⟩
           tallies := ⟨0, 0, 0, 0, 0⟩
           latches := Vector.replicate 8 none })) ∧
  (∀ s : State, s.supply.port = .image →
     let failed : LoadError → State := fun e =>
       { s with
         supply := { s.supply with port := .free, timerRunning := false, page := none }
         lot := { s.lot with state := .unloaded, loadError := e }
         alert := { s.alert with latch := s.alert.latch.set 7 true } }
     exec (.imageAnswer .absent) s = .next (failed .absent) ∧
     (∀ bytes, exec (.imageAnswer (.image bytes false)) s = .next (failed .tag)) ∧
     (∀ bytes, parseImage bytes = none → exec (.imageAnswer (.image bytes true)) s = .next (failed .format)) ∧
     exec .reelSilent s = .next (failed .reel))

/-- Load validation (R23, R26, R192, R193): an image is accepted, with given fields and table entries, exactly when
these are what its bytes spell at the bits of R193 and they pass the nine checks (`LotImage.Valid` in Safety.lean
spells them out). So a role of 8 to 15, a check mode of 3 and a GUARD entry with access 0, which no code names, are
refused; the base, length and access of a NONE entry and the access of any entry but a GUARD are not read. -/
def Obligations.ImagesAreAcceptedExactlyWhenValid : Prop :=
  ∀ (bytes : Vector Byte 128) (im : LotImage),
    let w : Fin 32 → Word := imageWordAt bytes
    let bits : Fin 32 → Nat → Nat → Nat := fun i hi lo => ((w i).extractLsb hi lo).toNat
    parseImage bytes = some im ↔
      (im.lotId = w 0 ∧ im.arm = w 1 ∧ im.statusMask = w 2 ∧ im.busy = w 3 ∧ im.done = w 4 ∧ im.fail = w 5 ∧
        im.ceiling = bits 6 23 0 ∧ im.tickCode = bits 7 18 16 ∧ im.responseLimit = bits 7 9 0 ∧
        im.keyWaitLimit = bits 8 25 16 ∧ im.debounce = bits 8 7 0 ∧
        im.dwellLimit = bits 9 31 16 ∧ im.watchdogLimit = bits 9 15 0 ∧
        im.checkMode.code = bits 10 1 0 ∧ im.retryLimit = bits 10 6 4 ∧ im.refillLevel = bits 10 12 8 ∧
        im.lowLevel = bits 10 20 16 ∧ im.identRequired = (w 10).getLsbD 24 ∧ im.autoEnd = (w 10).getLsbD 25 ∧
        (∀ k : Fin 7, im.excMask[k] = (w 11).getLsbD k.val) ∧
        (∀ k : Fin 8, im.alertMask[k] = (w 11).getLsbD (8 + k.val))) ∧
      (∀ i : Fin 16,
        let word : Fin 32 := ⟨12 + i.val, by omega⟩
        im.table[i].role.code = bits word 31 28 ∧
        (im.table[i].role ≠ .none →
          im.table[i].base.toNat = bits word 15 0 ∧ im.table[i].length = bits word 24 16) ∧
        (im.table[i].role = .guard → im.table[i].access.map Access.code = some (bits word 27 26))) ∧
      im.Valid

/-- When a FETCH and an APPEND are wanted (R52, R58), what the arbiter grants (R59), and what the start of each is
(R52, R60). FETCH_START and APPEND_START are the arbiter's own events where it stands to grant them; no event leaves
the part so (`FinishSettlesThePort`), because the grant belongs to the event of the change (assumption log 9). -/
def Obligations.ArbiterGrantsAndStarts : Prop :=
  (∀ s : State,
     (s.fetchWanted = true ↔
       s.lot.state = .opened ∧ s.supply.exhausted = false ∧ s.tallies.fetched + s.draws < s.image.ceiling ∧
       s.supply.unwrap = none ∧ s.log.records.length + s.log.reservations < 16 ∧
       s.pool.deque.length + s.bindings + s.draws < 32 ∧
       (s.pool.deque.length + s.draws ≤ s.image.refillLevel ∨ ∃ n : Site, s.pool.waiting[n] = true)) ∧
     (s.appendWanted = true ↔
       (s.lot.state = .opened ∨ s.lot.state = .draining) ∧ 1 ≤ s.log.records.length) ∧
     (s.supply.port ≠ .free → s.arbitrate = s) ∧
     (s.supply.port = .free →
       (s.fetchWanted = false → s.appendWanted = false → s.arbitrate = s) ∧
       (s.fetchWanted = true → s.appendWanted = false ∨ s.log.records.length ≤ 3 →
         s.arbitrate =
           { s with
             log := { s.log with reservations := s.log.reservations + 1 }
             supply := { s.supply with
               port := .fetch, timerRunning := true, draw := some .transfer, fetchReservation := true }
             sent := s.sent ++ [.reel .fetch] }) ∧
       (s.appendWanted = true → s.fetchWanted = false ∨ 4 ≤ s.log.records.length →
         s.arbitrate =
           { s with
             supply := { s.supply with
               port := .append, timerRunning := true, page := some ((s.log.records.take 4).map LogRecord.seq) }
             sent := s.sent ++ [.reel (.append (s.log.records.take 4))] }))) ∧
  (∀ s : State, s.supply.port = .free →
     (s.fetchWanted = true → s.appendWanted = false ∨ s.log.records.length ≤ 3 →
       exec .fetchStart s = .next s.arbitrate.finish) ∧
     (s.appendWanted = true → s.fetchWanted = false ∨ 4 ≤ s.log.records.length →
       exec .appendStart s = .next s.arbitrate.finish))

/-- FETCH answers (R53): a record goes to the unwrap unit with the draw in UNWRAP; END sets reel-exhausted, ends the
draw and releases its reservation. At a port that carries no FETCH the answer is discarded (R46). The key record in
its 62 bytes (R192): serial in bytes 0 to 5, wrapped check in 6 to 13, wrapped key in 14 to 45, tag in 46 to 61, most
significant byte first. -/
def Obligations.FetchAnswers : Prop :=
  ∀ (s : State) (bytes : Vector Byte 62),
    (s.supply.port = .fetch →
      exec (.fetchAnswer (.record bytes)) s =
        .next (State.finish
          { s with supply := { s.supply with
              port := .free, timerRunning := false, page := none, draw := some .unwrap,
              unwrap := some (KeyRecord.ofBytes bytes) } }) ∧
      (s.supply.draw ≠ none →
        exec (.fetchAnswer .endOfReel) s =
          .next (State.finish
            { s with
              supply := { s.supply with
                port := .free, timerRunning := false, page := none, draw := none, fetchReservation := false,
                unwrap := none, exhausted := true }
              log := { s.log with reservations := s.log.reservations - 1 } }))) ∧
    (s.supply.port ≠ .fetch →
      exec (.fetchAnswer (.record bytes)) s = .next s ∧ exec (.fetchAnswer .endOfReel) s = .next s) ∧
    (∀ i : Fin 62, bytes[i] =
      if i.val < 6 then (KeyRecord.ofBytes bytes).serial.extractLsb' (8 * (5 - i.val)) 8
      else if i.val < 14 then (KeyRecord.ofBytes bytes).wrappedCheck.extractLsb' (8 * (13 - i.val)) 8
      else if i.val < 46 then (KeyRecord.ofBytes bytes).wrappedKey.extractLsb' (8 * (45 - i.val)) 8
      else (KeyRecord.ofBytes bytes).tag.extractLsb' (8 * (61 - i.val)) 8)

/-- Unwrap completion (R54, R55, R56): a failed tag, or a serial at or below the highest accepted one, is rejected
with a REJECT record on the draw's reservation and REJECTED raised; any other record is accepted: it becomes the
highest accepted serial, FETCHED rises, the draw ends with its reservation released, and the key is delivered. That
a waiting site's write stands in `sent` before a reel command of the same event is the model's (assumption log 25). -/
def Obligations.UnwrapCompletion : Prop :=
  ∀ (s : State) (k : KeyRecord) (key : KeyWords) (check : CheckWords), s.supply.unwrap = some k → s.supply.draw ≠ none →
    let rejected : RejectReason → State := fun reason =>
      { s with
        log := ⟨s.log.records ++ [⟨s.log.nextSeq, .reject k.serial reason⟩], s.log.reservations - 1, s.log.nextSeq + 1⟩
        tallies := s.tallies.raise .rejected
        supply := { s.supply with draw := none, fetchReservation := false, unwrap := none } }
    exec (.unwrapCompletion .tagFails) s = .next (rejected .tag).finish ∧
    (∀ h, s.pool.highest = some h → k.serial.toNat ≤ h.toNat →
      exec (.unwrapCompletion (.tagPasses key check)) s = .next (rejected .order).finish) ∧
    ((∀ h, s.pool.highest = some h → h.toNat < k.serial.toNat) →
      exec (.unwrapCompletion (.tagPasses key check)) s =
        .next (State.finish (State.deliver
          { s with
            pool := { s.pool with highest := some k.serial }
            tallies := s.tallies.raise .fetched
            log := { s.log with reservations := s.log.reservations - 1 }
            supply := { s.supply with draw := none, fetchReservation := false, unwrap := none } }
          ⟨k.serial, key, check⟩ false)))

/-- APPEND OK (R39, R60, R152): the page's records leave the front of the log, the append failures return to 0, the
port is FREE; where the page held the CLOSE record, a DRAINING lot is CLOSED with a LOT event. APPEND FAIL (R61): the
first two FAILs of a page send it again at once; the third halts the lot with APPEND-FAIL, the records kept and the
append failures left at 2. -/
def Obligations.AppendAnswers : Prop :=
  (∀ (s : State) (p : List Word), s.supply.port = .append → s.supply.page = some p →
     let taken : State :=
       { s with
         supply := { s.supply with port := .free, timerRunning := false, page := none, appendFailures := 0 }
         log := { s.log with records := s.log.records.drop p.length } }
     ((∃ r ∈ s.log.records.take p.length, r.isClose = true) → s.lot.state = .draining →
       exec .appendOk s = .next (State.finish
         { taken with
           lot := { s.lot with state := .closed }
           alert := { s.alert with latch := s.alert.latch.set 7 true } })) ∧
     (¬((∃ r ∈ s.log.records.take p.length, r.isClose = true) ∧ s.lot.state = .draining) →
       exec .appendOk s = .next taken.finish)) ∧
  (∀ (s : State) (p : List Word), s.supply.port = .append → s.supply.page = some p →
     (s.supply.appendFailures < 2 →
       exec .appendFail s = .next
         { s with
           supply := { s.supply with appendFailures := s.supply.appendFailures + 1 }
           sent := s.sent ++ [.reel (.append (s.log.records.take p.length))] }) ∧
     (2 ≤ s.supply.appendFailures → exec .appendFail s = .next (s.freePort.halt .appendFail).finish))

/-- Bytes from the reel (R46, R192). Outside the transfer of the operation on the port, at a FREE port, without an
answer byte, or with an answer byte that is not listed for the command on the port, they are discarded: nothing in the
part changes, and the operation waits on. A listed answer within the transfer is the row it names: IMAGE answers 0x00
with 128 bytes or 0x01 ABSENT, FETCH 0x00 with 62 bytes or 0x02 END, APPEND 0x00 OK, 0x03 FAIL, 0x04 FULL; that
DISCARDED_REEL_ANSWER then does what that row does is the model's reading (assumption log 23). An answer row at a port
that carries another operation, or none, changes nothing. -/
def Obligations.ReelAnswersByTheirBytes : Prop :=
  ∀ (s : State) (bytes rest : List Byte) (code : Byte) (inTransfer tag : Bool),
    exec (.discardedReelAnswer ⟨bytes, false, tag⟩) s = .next s ∧
    exec (.discardedReelAnswer ⟨[], inTransfer, tag⟩) s = .next s ∧
    (s.supply.port = .free → exec (.discardedReelAnswer ⟨bytes, inTransfer, tag⟩) s = .next s) ∧
    ((s.supply.port = .image ∧ code ≠ 0x00 ∧ code ≠ 0x01) ∨ (s.supply.port = .fetch ∧ code ≠ 0x00 ∧ code ≠ 0x02) ∨
        (s.supply.port = .append ∧ code ≠ 0x00 ∧ code ≠ 0x03 ∧ code ≠ 0x04) →
      exec (.discardedReelAnswer ⟨code :: rest, inTransfer, tag⟩) s = .next s) ∧
    (s.supply.port = .image →
      (∀ image : Vector Byte 128,
        exec (.discardedReelAnswer ⟨0x00 :: image.toList, true, tag⟩) s = exec (.imageAnswer (.image image tag)) s) ∧
      exec (.discardedReelAnswer ⟨[0x01], true, tag⟩) s = exec (.imageAnswer .absent) s) ∧
    (s.supply.port = .fetch →
      (∀ record : Vector Byte 62,
        exec (.discardedReelAnswer ⟨0x00 :: record.toList, true, tag⟩) s = exec (.fetchAnswer (.record record)) s) ∧
      exec (.discardedReelAnswer ⟨[0x02], true, tag⟩) s = exec (.fetchAnswer .endOfReel) s) ∧
    (s.supply.port = .append →
      exec (.discardedReelAnswer ⟨[0x00], true, tag⟩) s = exec .appendOk s ∧
      exec (.discardedReelAnswer ⟨[0x03], true, tag⟩) s = exec .appendFail s ∧
      exec (.discardedReelAnswer ⟨[0x04], true, tag⟩) s = exec .appendFull s) ∧
    (s.supply.port ≠ .image → ∀ answer, exec (.imageAnswer answer) s = .next s) ∧
    (s.supply.port ≠ .fetch → ∀ answer, exec (.fetchAnswer answer) s = .next s) ∧
    (s.supply.port ≠ .append →
      exec .appendOk s = .next s ∧ exec .appendFail s = .next s ∧ exec .appendFull s = .next s)

/-- FULL and silence (R62, R63, R31, R46): a FULL answer to an APPEND halts the lot with LOG-SPACE, whatever the
append failures are; silence on a FETCH or an APPEND halts it with REEL-SILENT. The port is FREE, and the records and
the append failures stand as they were. -/
def Obligations.FullAndSilentReel : Prop :=
  ∀ s : State, s.lot.state = .opened ∨ s.lot.state = .draining →
    let halted : State → HaltCause → Prop := fun t cause =>
      t = (s.freePort.halt cause).finish ∧ t.lot.state = .halted ∧ t.lot.haltCause = cause ∧ t.supply.port = .free ∧
      t.supply.timerRunning = false ∧ t.supply.appendFailures = s.supply.appendFailures ∧
      t.log.records = s.log.records ∧ t.tallies = s.tallies
    (s.supply.port = .append →
      (∃ t, exec .appendFull s = .next t ∧ halted t .logSpace) ∧
      (∃ t, exec .reelSilent s = .next t ∧ halted t .reelSilent)) ∧
    (s.supply.port = .fetch → ∃ t, exec .reelSilent s = .next t ∧ halted t .reelSilent)

/-- The lot leaves OPEN (R34, R16, R117): every waiting site leaves the set with its reservation released and its
key-wait timer stopped, its held write is answered REFUSED and its lane is IDLE; nothing else changes. The order of
the answers of different lanes is the model's (assumption log 10). A fatal supply failure (R41, R42, R57): from OPEN
and DRAINING the lot is HALTED with the cause, having left OPEN; the operation on the port and the draw are abandoned,
the draw's reservation released, no record written, no tally changed. In any other lot state nothing changes. -/
def Obligations.LeavingOpenAndHalting : Prop :=
  (∀ s : State,
     s.leaveOpen =
       { s with
         pool := { s.pool with waiting := Vector.replicate 8 false }
         timers := Vector.ofFn fun n : Site =>
           if s.pool.waiting[n] then { s.timers[n] with keyWait := .stopped } else s.timers[n]
         lanes := Vector.ofFn fun n : Site => if s.pool.waiting[n] then ⟨.idle, .stopped, none⟩ else s.lanes[n]
         log := { s.log with reservations := s.log.reservations - s.waiters }
         sent := s.sent ++
           ((List.finRange 8).filter (fun n : Site => s.pool.waiting[n])).map
             (fun n => .upstream n ⟨.refused, none⟩) }) ∧
  (∀ (s : State) (cause : HaltCause), s.SupplyOk →
     (s.lot.state = .opened ∨ s.lot.state = .draining →
       s.halt cause =
         { s.leaveOpen with
           lot := { s.lot with state := .halted, haltCause := cause }
           supply := { s.supply with
             port := .free, timerRunning := false, page := none, draw := none, fetchReservation := false, unwrap := none }
           log := { s.leaveOpen.log with reservations := s.leaveOpen.log.reservations - s.draws } }) ∧
     (s.lot.state ≠ .opened → s.lot.state ≠ .draining → s.halt cause = s))

/-- UNUSED_SPOIL and CLOSE_RECORD where they are due (R37, R38, R151, R188). No event leaves the part so
(`FinishSettlesThePort`), because each starts in the event that enables it (R146, R151; assumption logs 8 and 9). -/
def Obligations.UnusedSpoilAndCloseRecord : Prop :=
  ∀ s : State, s.lot.state = .draining → s.log.records.length + s.log.reservations < 16 →
    (∀ (kept : List KeyEntry) (e : KeyEntry), s.pool.deque = kept ++ [e] →
      exec .unusedSpoil s = .next (State.finish
        { s with
          pool := { s.pool with deque := kept }
          log := { s.log with
            records := s.log.records ++
              [⟨s.log.nextSeq, .spoil none e.serial .unused (Vector.replicate 4 none) false⟩]
            nextSeq := s.log.nextSeq + 1 }
          tallies := s.tallies.raise .spoiled })) ∧
    (s.pool.deque = [] → s.supply.draw = none → (∀ n : Site, s.sites[n].binding = none) → s.lot.closeQueued = false →
      exec .closeRecord s = .next (State.finish
        { s with
          lot := { s.lot with closeQueued := true }
          log := { s.log with
            records := s.log.records ++ [⟨s.log.nextSeq, .closed s.tallies⟩]
            nextSeq := s.log.nextSeq + 1 } }))

/-- What the part starts by itself at the end of an event leaves alone (R37, R52, R58, R60, R151): sites, timers,
lanes, exceptions, view pointers, tally latches; the lot but its close record state; the pool but its deque; the alert
controller but its latches; FETCHED, REJECTED, COMMITTED and BLANKED. Outside DRAINING it is the arbiter's start and
the latches. -/
def Obligations.FinishKeepsTheRest : Prop :=
  ∀ s : State,
    (s.finish.sites = s.sites ∧ s.finish.timers = s.timers ∧ s.finish.lanes = s.lanes ∧ s.finish.exc = s.exc ∧
      s.finish.pointers = s.pointers ∧ s.finish.latches = s.latches ∧ s.finish.pending = s.pending) ∧
    (∃ q, s.finish.lot = { s.lot with closeQueued := q }) ∧
    (∃ d, s.finish.pool = { s.pool with deque := d }) ∧
    (∃ l, s.finish.alert = { s.alert with latch := l }) ∧
    (∃ k, s.finish.tallies = { s.tallies with spoiled := k }) ∧
    (s.finish.supply.unwrap = s.supply.unwrap ∧ s.finish.supply.exhausted = s.supply.exhausted ∧
      s.finish.supply.appendFailures = s.supply.appendFailures ∧ s.finish.supply.debouncer = s.supply.debouncer) ∧
    (s.lot.state ≠ .draining →
      ∃ l, s.finish = { s.arbitrate with alert := { s.alert with latch := l } })

/-- What the lot controller starts by itself in DRAINING at the end of an event (R37, R38, R146, R151): as many keys
as the log has room for are spoiled UNUSED from the back of the pool, and where that leaves the lot drained and the
log with room, the CLOSE record follows with the tallies as they then stand. That all of it falls in the enabling
event is the model's reading (assumption log 8). -/
def Obligations.DrainingSpoilsFromTheBack : Prop :=
  ∀ s : State, s.lot.state = .draining → s.tallies.spoiled + s.pool.deque.length ≤ 0xFFFFFFFF →
    let room : Nat := 16 - (s.log.records.length + s.log.reservations)
    let k : Nat := min s.pool.deque.length room
    let tallies : Tallies := { s.tallies with spoiled := s.tallies.spoiled + k }
    let closes : Bool :=
      k = s.pool.deque.length && k < room && s.bindings = 0 && s.supply.draw.isNone && !s.lot.closeQueued
    s.finish.pool.deque = s.pool.deque.take (s.pool.deque.length - k) ∧
    s.finish.tallies = tallies ∧
    s.finish.log.reservations = s.log.reservations ∧
    s.finish.lot.closeQueued = (s.lot.closeQueued || closes) ∧
    s.finish.log.records.map LogRecord.body =
      s.log.records.map LogRecord.body ++
        (s.pool.deque.reverse.take k).map (fun e => .spoil none e.serial .unused (Vector.replicate 4 none) false) ++
        (if closes then [.closed tallies] else [])

/-- After an event nothing that starts in the event of its cause is left waiting (R58, R146, R151), and the latch of
every condition source that is not in service is its condition (R79, R154, R158). -/
def Obligations.FinishSettlesThePort : Prop :=
  ∀ s : State, s.finish.Settled ∧ s.finish.LatchesFollow

/-! ## Commands through the claim window (09, 10) -/

/-- LOAD (R29): accepted in UNLOADED and CLOSED and answered OK; with a reel present LOADING and IMAGE started, from
CLOSED under the boot parameters; without one the load fails at once with REEL and a LOT event. Refused in the other
states. CLOSE (R35): accepted in OPEN, answered OK, and the lot, having left OPEN, is DRAINING; refused elsewhere.
That the REFUSED answers of the held writes stand before the command's OK, which is on another lane, is the model's
(assumption log 10). So is the place of a reel command in `sent`: IMAGE before LOAD's OK, what the arbiter starts
after CLOSE's (log 25). -/
def Obligations.LoadAndCloseCommands : Prop :=
  (∀ (s : State) (n : Site), s.lanes[n].state = .idle →
     let loading : State :=
       { s with
         lot := { s.lot with state := .loading, loadError := .none }
         supply := { s.supply with port := .image, timerRunning := true }
         sent := s.sent ++ [.reel .image, .upstream n ⟨.ok, none⟩] }
     (s.lot.state = .unloaded → s.supply.debouncer = .present → exec (.load n) s = .next loading) ∧
     (s.lot.state = .closed → s.supply.debouncer = .present → exec (.load n) s = .next loading.retime) ∧
     (s.lot.state = .unloaded → s.supply.debouncer ≠ .present →
       exec (.load n) s = .next
         { s with
           lot := { s.lot with loadError := .reel }
           alert := { s.alert with latch := s.alert.latch.set 7 true }
           sent := s.sent ++ [.upstream n ⟨.ok, none⟩] }) ∧
     (s.lot.state = .loading ∨ s.lot.state = .opened ∨ s.lot.state = .draining ∨ s.lot.state = .halted →
       exec (.load n) s = .next (s.answer n .refused))) ∧
  (∀ (s : State) (n : Site), s.lanes[n].state = .idle →
     (s.lot.state = .opened →
       exec (.close n) s = .next (State.finish
         (State.answer { s.leaveOpen with lot := { s.lot with state := .draining } } n .ok))) ∧
     (s.lot.state ≠ .opened → exec (.close n) s = .next (s.answer n .refused)))

/-- RELEASE (R103, R174), by the state of the site named; that the REFUSED answer of a held write stands before the
command's OK, which is on another lane, is the model's (assumption log 10), and so is the answer's place in `sent`
before a reel command of the same event (log 25). LOWEST (R76): the ring in numeric order from the site after the
named one, and nothing else. Both refused in UNLOADED and LOADING and for an argument above 7. -/
def Obligations.ReleaseAndLowestCommands : Prop :=
  (∀ (s : State) (n : Site) (arg : Byte), s.lanes[n].state = .idle →
     (s.lot.state = .unloaded ∨ s.lot.state = .loading ∨ 8 ≤ arg.toNat →
       exec (.release n arg) s = .next (s.answer n .refused)) ∧
     (∀ m : Site, arg.toNat = m.val → s.lot.state ≠ .unloaded → s.lot.state ≠ .loading →
       (s.sites[m].state = .vacant ∨ s.sites[m].state = .finished ∨
           (s.sites[m].state = .ready ∧ s.pool.waiting[m] = false) →
         exec (.release n arg) s = .next (s.answer n .refused)) ∧
       (s.sites[m].state = .ready → s.pool.waiting[m] = true →
         exec (.release n arg) s = .next (State.finish
           { s with
             pool := { s.pool with waiting := s.pool.waiting.set m false }
             timers := s.timers.set m { s.timers[m] with keyWait := .stopped }
             log := { s.log with reservations := s.log.reservations - 1 }
             lanes := s.lanes.set m ⟨.idle, .stopped, none⟩
             sent := s.sent ++ [.upstream m ⟨.refused, none⟩, .upstream n ⟨.ok, none⟩] })) ∧
       (∀ b, s.sites[m].state = .staging → s.sites[m].binding = some b →
         (b.exposed = true ∨ b.inFlight ≠ none →
           exec (.release n arg) s = .next ((s.spoil m .release .finished).answer n .ok).finish) ∧
         (b.exposed = false → b.inFlight = none →
           exec (.release n arg) s = .next ((s.returnKey m .ready).answer n .ok).finish)) ∧
       (s.sites[m].state = .armed ∨ s.sites[m].state = .programmed →
         exec (.release n arg) s = .next ((s.spoil m .release .finished).answer n .ok).finish) ∧
       (s.sites[m].state = .blanked ∨ s.sites[m].state = .fault →
         exec (.release n arg) s = .next ((s.setSite m { s.sites[m] with state := .finished }).answer n .ok)))) ∧
  (∀ (s : State) (n : Site) (arg : Byte), s.lanes[n].state = .idle →
     (s.lot.state = .unloaded ∨ s.lot.state = .loading ∨ 8 ≤ arg.toNat →
       exec (.lowest n arg) s = .next (s.answer n .refused)) ∧
     (∀ m : Site, arg.toNat = m.val → s.lot.state ≠ .unloaded → s.lot.state ≠ .loading →
       exec (.lowest n arg) s = .next (State.answer
         { s with pool := { s.pool with ring := [m + 1, m + 2, m + 3, m + 4, m + 5, m + 6, m + 7, m] } } n .ok)))

/-- Raising an exception (R129): the kind joins the site's sticky set, and where its flag is STRICT the site joins
SITE-EXCEPTION's site set and its request is SET; nothing else changes. MASK, EXCEPTION MASK and ALERT MASK (R134, R135,
R159): one flag set to MASKED or STRICT, refused in UNLOADED and LOADING and for a kind above 6; all seven or all eight
flags replaced, in every lot state; nothing else changes. -/
def Obligations.ExceptionsAndTheirMasks : Prop :=
  (∀ (s : State) (n : Site), s.lanes[n].state = .idle →
     (∀ (arg : Byte) (on : Bool),
       (s.lot.state = .unloaded ∨ s.lot.state = .loading ∨ 7 ≤ arg.toNat →
         exec (.mask n arg on) s = .next (s.answer n .refused)) ∧
       (∀ k : Fin 7, arg.toNat = k.val → s.lot.state ≠ .unloaded → s.lot.state ≠ .loading →
         exec (.mask n arg on) s =
           .next (State.answer { s with exc := { s.exc with mask := s.exc.mask.set k on } } n .ok))) ∧
     (∀ data : Word,
       exec (.exceptionMask n data) s = .next (State.answer
         { s with exc := { s.exc with mask := Vector.ofFn fun k : Fin 7 => data.getLsbD k.val } } n .ok) ∧
       exec (.alertMask n data) s = .next (State.answer
         { s with alert := { s.alert with mask := Vector.ofFn fun k : Fin 8 => data.getLsbD k.val } } n .ok))) ∧
  (∀ (s : State) (n : Site) (k : ExcKind),
     s.raiseExc n k =
       { s with
         exc := { s.exc with sticky := s.exc.sticky.set n (s.exc.sticky[n].set k.index true) }
         alert := if s.exc.mask[k.index] then s.alert
           else { s.alert with
             latch := s.alert.latch.set 3 true
             siteSets := { s.alert.siteSets with siteException := s.alert.siteSets.siteException.set n true } } })

/-- CLEAR-CHECKED and CLEAR-UNCHECKED (R138, R139, R167): the first empties the site's sticky set unless the site is
pending, and is then refused; the second empties it in any case, takes the site out of the pending set, and the
removal of the last one withdraws the request. Refused in UNLOADED and LOADING and for an argument above 7. -/
def Obligations.ClearCommands : Prop :=
  ∀ (s : State) (n : Site) (arg : Byte), s.lanes[n].state = .idle →
    (s.lot.state = .unloaded ∨ s.lot.state = .loading ∨ 8 ≤ arg.toNat →
      exec (.clearChecked n arg) s = .next (s.answer n .refused) ∧
      exec (.clearUnchecked n arg) s = .next (s.answer n .refused)) ∧
    (∀ m : Site, arg.toNat = m.val → s.lot.state ≠ .unloaded → s.lot.state ≠ .loading →
      let emptied : ExceptionUnit := { s.exc with sticky := s.exc.sticky.set m (Vector.replicate 7 false) }
      let rest : SiteSet := s.alert.siteSets.siteException.set m false
      (s.alert.siteSets.siteException[m] = true →
        exec (.clearChecked n arg) s = .next (s.answer n .refused) ∧
        exec (.clearUnchecked n arg) s = .next (State.answer
          { s with
            exc := emptied
            alert := { s.alert with
              siteSets := { s.alert.siteSets with siteException := rest }
              latch := if rest = Vector.replicate 8 false then s.alert.latch.set 3 false else s.alert.latch } } n .ok)) ∧
      (s.alert.siteSets.siteException[m] = false →
        exec (.clearChecked n arg) s = .next (State.answer { s with exc := emptied } n .ok) ∧
        exec (.clearUnchecked n arg) s = .next (State.answer { s with exc := emptied } n .ok)))

/-- Which source is eligible, and the ALERT line (R160); the three conditions (R42, R79, R154). An event for an event
source (R157): its latch is SET, and the site that it names, for STALL, MISMATCH, SITE-EXCEPTION and LOSS, joins that
source's site set; nothing else in the controller changes. -/
def Obligations.AlertSourcesAndLine : Prop :=
  (∀ s : State,
     (∀ src : Source, s.alert.eligible src = true ↔
       s.alert.latch[src.priority] = true ∧ s.alert.mask[src.priority] = false ∧ src ∉ s.alert.inService ∧
       ∀ other ∈ s.alert.inService, src.priority < other.priority) ∧
     (s.alertLine = true ↔ ∃ src : Source, s.alert.eligible src = true)) ∧
  (∀ s : State,
     (s.condition .halt = true ↔ s.lot.state = .halted) ∧
     (s.condition .logFull = true ↔ s.log.records.length + s.log.reservations = 16) ∧
     (s.condition .poolLow = true ↔ s.lot.state = .opened ∧ s.pool.deque.length ≤ s.image.lowLevel)) ∧
  (∀ (a : AlertController) (n : Site),
     a.event .stall (some n) = { a with
       latch := a.latch.set 1 true, siteSets := { a.siteSets with stall := a.siteSets.stall.set n true } } ∧
     a.event .mismatch (some n) = { a with
       latch := a.latch.set 2 true, siteSets := { a.siteSets with mismatch := a.siteSets.mismatch.set n true } } ∧
     a.event .siteException (some n) = { a with
       latch := a.latch.set 3 true
       siteSets := { a.siteSets with siteException := a.siteSets.siteException.set n true } } ∧
     a.event .loss (some n) = { a with
       latch := a.latch.set 4 true, siteSets := { a.siteSets with loss := a.siteSets.loss.set n true } } ∧
     a.event .lot none = { a with latch := a.latch.set 7 true })

/-- TAKE (R161, R166): with no source eligible, NONE (0xF) and no change; else the eligible source of highest priority
and its site set go upstream, its latch and site set are cleared, and it is placed at the back of the in-service list,
which with auto-end ON it leaves in the same event. -/
def Obligations.AlertTake : Prop :=
  ∀ (s : State) (n : Site), s.lanes[n].state = .idle →
    ((∀ src : Source, s.alert.eligible src = false) →
      exec (.alertTake n) s = .next (s.answer n .ok (some 0xF))) ∧
    (∀ src : Source, s.alert.eligible src = true →
      (∀ other : Source, s.alert.eligible other = true → src.priority ≤ other.priority) →
      let taken : State :=
        { s with alert :=
            { s.alert with
              latch := s.alert.latch.set src.priority false
              siteSets := s.alert.siteSets.set (Vector.replicate 8 false) src
              inService := s.alert.inService ++ [src] } }
      ∃ v : Word,
        exec (.alertTake n) s =
          .next ((if s.alert.autoEnd then taken.leaveService src else taken).answer n .ok (some v)) ∧
        v.toNat < 2 ^ 16 ∧ v.toNat % 256 = src.priority.val ∧
        (∀ m : Site, v.getLsbD (8 + m.val) = (s.alert.siteSets.get src)[m]))

/-- END (R163, R164) and leaving service (R165): non-specific, the source at the back of the list; specific, the one
named by its priority number, wherever it stands; REFUSED with nothing changed where there is none. A condition source
that leaves is requested exactly where its condition holds, an event source as its latch stands. -/
def Obligations.AlertEnd : Prop :=
  ∀ (s : State) (n : Site), s.lanes[n].state = .idle →
    (s.alert.inService = [] → exec (.alertEndNonSpecific n) s = .next (s.answer n .refused)) ∧
    (∀ (front : List Source) (src : Source), s.alert.inService = front ++ [src] →
      exec (.alertEndNonSpecific n) s = .next ((s.leaveService src).answer n .ok)) ∧
    (∀ (p : BitVec 3) (src : Source), src.priority.val = p.toNat →
      (src ∈ s.alert.inService → exec (.alertEndSpecific n p) s = .next ((s.leaveService src).answer n .ok)) ∧
      (src ∉ s.alert.inService → exec (.alertEndSpecific n p) s = .next (s.answer n .refused))) ∧
    (∀ src : Source,
      s.leaveService src =
        { s with alert :=
            { s.alert with
              inService := s.alert.inService.filter (· ≠ src)
              latch := if src = .halt ∨ src = .logFull ∨ src = .poolLow
                then s.alert.latch.set src.priority (s.condition src) else s.alert.latch } })

/-- VIEW SELECT and VIEW DATA (R177, R178, R176): the lane's pointer is set where the page is one of the twelve and
the index is below its length, else REFUSED; a read returns the word at the pointer and moves it on, from the last
word to 0. What the POOL page (R80, R180), the TABLE and LOT pages (R181) and LOG words 0 and 1 (R180) hold, packed as
R193 says, every bit that belongs to no field 0; TABLE and LOT read 0 while no image is held. -/
def Obligations.ViewSelectViewDataAndPages : Prop :=
  (∀ (s : State) (n : Site), s.lanes[n].state = .idle →
    (∀ (page : BitVec 4) (index : Byte),
      (∀ p : ViewPage, p.code = page.toNat →
        (index.toNat < p.length →
          exec (.viewSelect n page index) s =
            .next (State.answer { s with pointers := s.pointers.set n ⟨p, index.toNat⟩ } n .ok)) ∧
        (p.length ≤ index.toNat → exec (.viewSelect n page index) s = .next (s.answer n .refused))) ∧
      (12 ≤ page.toNat → exec (.viewSelect n page index) s = .next (s.answer n .refused))) ∧
    exec (.viewData n) s =
      .next (State.answer
        { s with pointers := s.pointers.set n ⟨s.pointers[n].page,
            if s.pointers[n].index + 1 < s.pointers[n].page.length then s.pointers[n].index + 1 else 0⟩ }
        n .ok (some (s.pageWord s.pointers[n].page s.pointers[n].index)))) ∧
  (∀ s : State, s.Coherent → s.ImageOk →
    let high : Serial → Nat := fun serial => serial.toNat / 2 ^ 32
    let low : Serial → Nat := fun serial => serial.toNat % 2 ^ 32
    let shows : ViewPage → Nat → Nat → Prop := fun page i v => (s.pageWord page i).toNat = v
    (shows .pool 0 (s.pool.deque.length + ∑ n : Site, if s.pool.waiting[n] then 2 ^ (8 + n.val) else 0) ∧
      (∀ (k : Fin 8) (n : Site), s.pool.ring[k.val]? = some n → (s.pageWord .pool 1).toNat / 16 ^ k.val % 16 = n.val) ∧
      (s.pool.deque = [] → ∀ i ∈ [2, 3, 4, 5], shows .pool i 0) ∧
      (∀ front rest, s.pool.deque = front :: rest →
        shows .pool 2 (high front.serial) ∧ shows .pool 3 (low front.serial)) ∧
      (∀ rest back, s.pool.deque = rest ++ [back] →
        shows .pool 4 (high back.serial) ∧ shows .pool 5 (low back.serial)) ∧
      (s.pool.highest = none → shows .pool 6 0 ∧ shows .pool 7 0) ∧
      (∀ h, s.pool.highest = some h → shows .pool 6 (2 ^ 31 + high h) ∧ shows .pool 7 (low h))) ∧
    (shows .log 0 (s.log.records.length + 2 ^ 8 * s.log.reservations) ∧ s.pageWord .log 1 = s.log.nextSeq) ∧
    (s.lot.image = none → ∀ i, shows .table i 0 ∧ shows .lot i 0) ∧
    (∀ im, s.lot.image = some im →
      (∀ i : Fin 16, shows .table i.val
        (2 ^ 28 * im.table[i].role.code + 2 ^ 26 * (im.table[i].access.map Access.code).getD 0 +
          2 ^ 16 * im.table[i].length + im.table[i].base.toNat)) ∧
      s.pageWord .lot 0 = im.lotId ∧ s.pageWord .lot 1 = im.arm ∧ s.pageWord .lot 2 = im.statusMask ∧
      s.pageWord .lot 3 = im.busy ∧ s.pageWord .lot 4 = im.done ∧ s.pageWord .lot 5 = im.fail ∧
      shows .lot 6 im.ceiling ∧
      shows .lot 7 (2 ^ 16 * im.tickCode + im.responseLimit) ∧
      shows .lot 8 (2 ^ 16 * im.keyWaitLimit + im.debounce) ∧
      shows .lot 9 (2 ^ 16 * im.dwellLimit + im.watchdogLimit) ∧
      shows .lot 10 (im.checkMode.code + 2 ^ 4 * im.retryLimit + 2 ^ 8 * im.refillLevel + 2 ^ 16 * im.lowLevel +
        (if im.identRequired then 2 ^ 24 else 0) + if im.autoEnd then 2 ^ 25 else 0) ∧
      shows .lot 11 ((∑ k : Fin 7, if im.excMask[k] then 2 ^ k.val else 0) +
        ∑ k : Fin 8, if im.alertMask[k] then 2 ^ (8 + k.val) else 0)))

/-- Log records on the reel and on the LOG page (R143, R145, R192, R193): a 32-byte body and 48 bytes in all, and the
twelve words of a held record's slot are its bytes in order; a slot that holds no record reads 0. The fields of each
kind in the body: sequence in bytes 0 to 3, kind in 4, site or 0xFF in 5, reason in 6, in 7 the ident bits, the
suspect flag and the attempts, from byte 8 the serial, the lot identifier or the tallies, from 16 the ident words with
0 for an absent one, and 0 in every byte that the kind does not use. -/
def Obligations.LogRecordsAre48Bytes : Prop :=
  (∀ r : LogRecord, r.bodyBytes.length = 32 ∧ r.bytes.length = 48 ∧
    ∀ j, j < 12 → (r.word j).toNat = natOfBytes ((r.bytes.drop (4 * j)).take 4)) ∧
  (∀ (s : State) (k j : Nat), k < 16 → j < 12 →
    (∀ r, s.log.records[k]? = some r → s.pageWord .log (2 + 12 * k + j) = r.word j) ∧
    (s.log.records[k]? = none → s.pageWord .log (2 + 12 * k + j) = 0)) ∧
  (∀ (seq : Word) (body : RecordBody),
    let spelled : Nat → Nat → Nat := fun start n => natOfBytes (((LogRecord.mk seq body).bodyBytes.drop start).take n)
    let present : Ident → Nat := fun ident => ∑ i : Fin 4, if ident[i].isSome then 2 ^ i.val else 0
    let words : Ident → Prop := fun ident => ∀ i : Fin 4, spelled (16 + 4 * i.val) 4 = (ident[i].getD 0).toNat
    spelled 0 4 = seq.toNat ∧
    (∀ lotId, body = .opened lotId →
      spelled 4 4 = 0x01FF0000 ∧ spelled 8 4 = lotId.toNat ∧ spelled 12 20 = 0) ∧
    (∀ site serial ident attempts, body = .commit site serial ident attempts → attempts < 8 →
      spelled 4 1 = 2 ∧ spelled 5 1 = site.val ∧ spelled 6 1 = 0 ∧ spelled 7 1 = present ident + 2 ^ 5 * attempts ∧
      spelled 8 6 = serial.toNat ∧ spelled 14 2 = 0 ∧ words ident) ∧
    (∀ site serial reason ident suspect, body = .spoil site serial reason ident suspect →
      spelled 4 1 = 3 ∧ (∀ n, site = some n → spelled 5 1 = n.val) ∧ (site = none → spelled 5 1 = 0xFF) ∧
      spelled 6 1 = reason.code ∧ spelled 7 1 = present ident + (if suspect then 2 ^ 4 else 0) ∧
      spelled 8 6 = serial.toNat ∧ spelled 14 2 = 0 ∧ words ident) ∧
    (∀ site ident, body = .blank site ident →
      spelled 4 1 = 4 ∧ spelled 5 1 = site.val ∧ spelled 6 1 = 0 ∧ spelled 7 1 = present ident ∧
      spelled 8 8 = 0 ∧ words ident) ∧
    (∀ serial reason, body = .reject serial reason →
      spelled 4 1 = 5 ∧ spelled 5 1 = 0xFF ∧ spelled 6 1 = reason.code ∧ spelled 7 1 = 0 ∧
      spelled 8 6 = serial.toNat ∧ spelled 14 18 = 0) ∧
    (∀ t : Tallies, body = .closed t → (∀ which, t.get which ≤ 0xFFFFFFFF) →
      spelled 4 4 = 0x06FF0000 ∧ spelled 8 4 = t.fetched ∧ spelled 12 4 = t.rejected ∧ spelled 16 4 = t.committed ∧
      spelled 20 4 = t.spoiled ∧ spelled 24 4 = t.blanked ∧ spelled 28 4 = 0))

/-- TALLY LATCH and the TALLY words (R182, R183): a write to an empty latch takes a snapshot with all five pending, to
any other changes nothing, OK in both; a read returns a pending latched value and releases it, the last one emptying
the latch, and else the live tally. -/
def Obligations.TallyLatchAndTallyWords : Prop :=
  ∀ (s : State) (n : Site), s.lanes[n].state = .idle →
    (s.latches[n] = none →
      let snapshot : TallyLatch := ⟨⟨s.tallies.fetched, true⟩, ⟨s.tallies.rejected, true⟩, ⟨s.tallies.committed, true⟩,
        ⟨s.tallies.spoiled, true⟩, ⟨s.tallies.blanked, true⟩⟩
      exec (.tallyLatch n) s = .next (State.answer { s with latches := s.latches.set n (some snapshot) } n .ok)) ∧
    (∀ l, s.latches[n] = some l → exec (.tallyLatch n) s = .next (s.answer n .ok)) ∧
    (∀ which : Tally,
      (s.latches[n] = none →
        exec (.tally n which) s = .next (s.answer n .ok (some (BitVec.ofNat 32 (s.tallies.get which))))) ∧
      (∀ l, s.latches[n] = some l → (l.get which).pending = false →
        exec (.tally n which) s = .next (s.answer n .ok (some (BitVec.ofNat 32 (s.tallies.get which))))) ∧
      (∀ l, s.latches[n] = some l → (l.get which).pending = true →
        let left : Option TallyLatch :=
          if [Tally.fetched, .rejected, .committed, .spoiled, .blanked].any
            (fun other => other ≠ which && (l.get other).pending) then some (l.release which) else none
        exec (.tally n which) s = .next (State.answer { s with latches := s.latches.set n left }
          n .ok (some (BitVec.ofNat 32 (l.get which).value)))))

/-! ## Invariants that every step keeps -/

/-- R2, R75, R76, R161, R176: the ring stays an order of all eight sites, every lane's state, timer and record
agree, the in-service list runs from lowest to highest priority, and every view pointer stays inside its page. R144:
the records held run consecutively up to the next sequence. R184: no tally passes 0xFFFF_FFFF. -/
def Obligations.StepKeepsOrders : Prop :=
  (∀ s s' : State, step s = .next s' →
     (s.RingOk → s'.RingOk) ∧ (s.LanesOk → s'.LanesOk) ∧ (s.InServiceOk → s'.InServiceOk) ∧ (s.PointersOk → s'.PointersOk)) ∧
  (∀ s s' : State, step s = .next s' → seqsBelow s.log.records s.log.nextSeq → seqsBelow s'.log.records s'.log.nextSeq) ∧
  (∀ s s' : State, step s = .next s' → (∀ which, s.tallies.get which ≤ 0xFFFFFFFF) →
     ∀ which, s'.tallies.get which ≤ 0xFFFFFFFF)

/-- R67: no serial is held twice, and none held is above the highest accepted serial. -/
def Obligations.StepKeepsSerialsApart : Prop :=
  ∀ s s' : State, s.Coherent → s.SerialsOk → step s = .next s' → s'.SerialsOk

/-- R94: no site's attempts exceed the retry limit, which is at most 4; a site in STAGING has one attempt left, and so
has an ARMED site whose ARM write is in flight. R26: a held image is valid, and so every running lane timer has a
limit of at least 1. -/
def Obligations.StepKeepsAttemptsAndImage : Prop :=
  ∀ s s' : State, s.Coherent → step s = .next s' →
    (s.AttemptsOk → s'.AttemptsOk) ∧ (s.ImageOk → s'.ImageOk)

/-- R186: FETCHED is the keys in the pool, plus the bindings, plus COMMITTED, plus SPOILED, at every moment; all five
are zero after every reset and at every lot open. R142, R149, R66, R52: records and reservations are at most 16, the
reservations are one for each binding, waiting site and draw, and the keys held or drawn are at most 32. -/
def Obligations.StepKeepsTheCounts : Prop :=
  (∀ s s' : State, s.Coherent → step s = .next s' →
    s'.Balanced ∧ s'.CeilingOk ∧ s'.LogRoom ∧ s'.ReservationsOk ∧ s'.KeysFit) ∧
  (∀ (c : Instr) (s t : State) (bytes : Vector Byte 128),
    c = .powerOn ∨ c = .resetLine ∨
      (c = .imageAnswer (.image bytes true) ∧ s.supply.port = .image ∧ parseImage bytes ≠ none) →
    exec c s = .next t →
    t.tallies.fetched = 0 ∧ t.pool.deque = [] ∧ t.bindings = 0 ∧ t.tallies.committed = 0 ∧ t.tallies.spoiled = 0)

/-- The invariants about sites, lanes, keys, the log and the port, together, hold after every step from a state in which
they hold. -/
def Obligations.StepKeepsCoherence : Prop :=
  ∀ s s' : State, s.Coherent → step s = .next s' → s'.Coherent

/-- R58, R146, R151, R158: between events nothing that starts by itself is left waiting, and the condition sources not
in service follow their conditions. -/
def Obligations.StepKeepsSettled : Prop :=
  ∀ s s' : State, s.Coherent → step s = .next s' →
    (s.Settled → s'.Settled) ∧ (s.LatchesFollow → s'.LatchesFollow)

/-- R92: no claim-window READ answers anything that depends on key words, expected checks or captured check words: in
two states that differ only in them and in what has left the part before, every READ of a claim word adds the same to
what has left the part, and the states still differ in nothing else. -/
def Obligations.ClaimWindowHidesKeys : Prop :=
  ∀ (s u t v : State) (n : Site) (kindByte : Byte) (a : Address) (data : Word),
    s.withoutKeys = u.withoutKeys → Kind.ofByte kindByte = .read →
    s.claimWord (s.checkMode.dieAddress a) ≠ none →
    exec (requestOf n kindByte a data) s = .next t →
    exec (requestOf n kindByte a data) u = .next v →
    (∃ out, t.sent = s.sent ++ out ∧ v.sent = u.sent ++ out) ∧ t.withoutKeys = v.withoutKeys
end

