-- ==== Sys2Proof/Laws/Formats.lean ====
section
/-! SUPPORT. Bytes and words: what big-endian bytes spell, what a frame and a lot image hold, and what a packed word shows. -/

namespace Sys2Proof.Machine

/-! ## Big-endian bytes (R190) -/

/-- One byte more at the end. -/
theorem natOfBytes_append_one (bs : List Byte) (b : Byte) : natOfBytes (bs ++ [b]) = natOfBytes bs * 256 + b.toNat := by
  simp [natOfBytes]

/-- A word and one byte more at its end. -/
theorem toNat_append_byte {w : Nat} (x : BitVec w) (b : Byte) : (x ++ b).toNat = x.toNat * 256 + b.toNat := by
  rw [BitVec.toNat_append, ← Nat.shiftLeft_add_eq_or_of_lt b.isLt, Nat.shiftLeft_eq]

/-- Two bytes spell their number. -/
theorem natOfBytes_two (x y : Byte) : natOfBytes [x, y] = (x ++ y).toNat := by
  rw [toNat_append_byte]; simp [natOfBytes]

/-- Four bytes spell their number. -/
theorem natOfBytes_four (x y z w : Byte) : natOfBytes [x, y, z, w] = (x ++ y ++ z ++ w).toNat := by
  rw [toNat_append_byte, toNat_append_byte, toNat_append_byte]; simp [natOfBytes]

@[simp] theorem length_bytesOfNat (n v : Nat) : (bytesOfNat n v).length = n := by
  induction n with
  | zero => rfl
  | succ n ih => simp [bytesOfNat, ih]

/-- The number that follows more significant bytes. -/
theorem natOfBytes_cons (b : Byte) (bs : List Byte) :
    natOfBytes (b :: bs) = b.toNat * 256 ^ bs.length + natOfBytes bs := by
  induction bs using List.reverseRecOn with
  | nil => simp [natOfBytes]
  | append_singleton bs c ih =>
    rw [← List.cons_append, natOfBytes_append_one, natOfBytes_append_one, ih, List.length_append, List.length_singleton,
      pow_succ]
    ring

/-- Bytes and back: the number below 256 ^ n. -/
theorem natOfBytes_bytesOfNat (n v : Nat) : natOfBytes (bytesOfNat n v) = v % 256 ^ n := by
  induction n with
  | zero => simp [bytesOfNat, natOfBytes, Nat.mod_one]
  | succ n ih =>
    have h : v % (256 ^ n * 256) = v % 256 ^ n + 256 ^ n * (v / 256 ^ n % 256) := Nat.mod_mul
    rw [bytesOfNat, natOfBytes_cons, ih, length_bytesOfNat, BitVec.toNat_ofNat, pow_succ 256 n, h, Nat.add_comm, Nat.mul_comm]

/-- Bytes spell a number below 256 to their count. -/
theorem natOfBytes_lt (bs : List Byte) : natOfBytes bs < 256 ^ bs.length := by
  induction bs with
  | nil => simp [natOfBytes]
  | cons b bs ih =>
    rw [natOfBytes_cons, List.length_cons, pow_succ]
    have := b.isLt
    nlinarith [Nat.pos_of_ne_zero (pow_ne_zero bs.length (by norm_num : (256 : Nat) ≠ 0))]

/-- The k-th byte of the number that bytes spell. -/
theorem natOfBytes_byte (bs : List Byte) (k : Nat) (hk : k < bs.length) :
    natOfBytes bs / 256 ^ (bs.length - 1 - k) % 256 = (bs[k]).toNat := by
  induction bs generalizing k with
  | nil => simp at hk
  | cons b bs ih =>
    rw [natOfBytes_cons]
    cases k with
    | zero =>
      simp
      have := natOfBytes_lt bs
      rw [Nat.add_div_of_dvd_right (Dvd.intro_left _ rfl), Nat.mul_div_cancel _ (by positivity), Nat.div_eq_of_lt this]
      have := b.isLt; omega
    | succ k =>
      simp only [List.length_cons, Nat.add_sub_cancel, List.getElem_cons_succ]
      have hk' : k < bs.length := by simpa using hk
      rw [← ih k hk', show bs.length - (k + 1) = bs.length - 1 - k by omega]
      have h : 256 ^ bs.length = 256 ^ (bs.length - 1 - k) * (256 * 256 ^ k) := by
        rw [← pow_succ', ← pow_add]; congr 1; omega
      rw [h, ← mul_assoc, mul_comm b.toNat, mul_assoc, Nat.mul_add_div (by positivity), mul_comm b.toNat, mul_assoc,
        Nat.mul_add_mod]

/-- Byte k of a field of `n` bytes is the k-th of its bytes in the record. -/
theorem byteField_byte (bs : List Byte) {start n k : Nat} (hk : k < n) (h : start + n ≤ bs.length) :
    (BitVec.ofNat (8 * n) (byteField bs start n)).extractLsb' (8 * (n - 1 - k)) 8 = bs[start + k] := by
  have hlen : ((bs.drop start).take n).length = n := by simp; omega
  have hb := natOfBytes_byte ((bs.drop start).take n) k (by omega)
  have hlt := natOfBytes_lt ((bs.drop start).take n)
  simp only [hlen, List.getElem_take, List.getElem_drop] at hb hlt
  have hmod : natOfBytes ((bs.drop start).take n) % 2 ^ (8 * n) = natOfBytes ((bs.drop start).take n) :=
    Nat.mod_eq_of_lt (by rw [pow_mul]; exact hlt)
  apply BitVec.eq_of_toNat_eq
  rw [BitVec.extractLsb'_toNat, BitVec.toNat_ofNat, byteField, hmod, Nat.shiftRight_eq_div_pow, pow_mul]
  exact hb

/-- The two bytes of a 16-bit field. -/
theorem bytesOfNat_two (x y : Byte) : bytesOfNat 2 (x ++ y).toNat = [x, y] := by
  rw [toNat_append_byte]
  have := x.isLt; have := y.isLt
  simp [bytesOfNat, ← BitVec.toNat_inj]
  omega

/-- The four bytes of a word. -/
theorem bytesOfNat_four (x y z w : Byte) : bytesOfNat 4 (x ++ y ++ z ++ w).toNat = [x, y, z, w] := by
  rw [toNat_append_byte, toNat_append_byte, toNat_append_byte]
  have := x.isLt; have := y.isLt; have := z.isLt; have := w.isLt
  simp [bytesOfNat, ← BitVec.toNat_inj]
  omega

/-- A block is the bytes it was made of. -/
@[simp] theorem block_toList {n : Nat} (v : Vector Byte n) : block n v.toList = some v := by
  rw [block, dif_pos v.length_toList]
  congr 1

/-! ## Frames (R191) -/

/-- Byte 0 of a frame is its kind. -/
@[simp] theorem requestKind_requestFrame (k : Byte) (address : Vector Byte 2) (data : List Byte) :
    requestKind (requestFrame k address data) = Kind.ofByte k := rfl

/-- Bytes 1 and 2 of a frame are its address field. -/
@[simp] theorem requestAddress_cons (k x y : Byte) (data : List Byte) :
    requestAddress (requestFrame k #v[x, y] data) = x ++ y := by
  have h : frameField (requestFrame k #v[x, y] data) 1 2 = natOfBytes [x, y] := rfl
  rw [requestAddress, h, natOfBytes_two, BitVec.ofNat_toNat, BitVec.setWidth_eq]

/-- Bytes 3 to 6 of a WRITE's frame are its data. -/
theorem requestData_cons (k : Byte) (address : Vector Byte 2) (x y z w : Byte) :
    requestData (requestFrame k address [x, y, z, w]) = x ++ y ++ z ++ w := by
  have h : frameField (requestFrame k address [x, y, z, w]) 3 4 = natOfBytes [x, y, z, w] := by
    rcases address with ⟨⟨l⟩, hl⟩
    match l, hl with
    | [_, _], _ => rfl
  rw [requestData, h, natOfBytes_four, BitVec.ofNat_toNat, BitVec.setWidth_eq]

/-- Bytes 1 to 4 of a response are its data. -/
theorem responseData_cons (st x y z w : Byte) : responseData [st, x, y, z, w] = x ++ y ++ z ++ w := by
  have h : frameField [st, x, y, z, w] 1 4 = natOfBytes [x, y, z, w] := rfl
  rw [responseData, h, natOfBytes_four, BitVec.ofNat_toNat, BitVec.setWidth_eq]

/-- A field of two bytes is its bytes. -/
theorem append_bytes_two (a : Address) : a.extractLsb' 8 8 ++ a.extractLsb' 0 8 = a := by
  apply BitVec.eq_of_toNat_eq
  have := a.isLt
  simp only [toNat_append_byte, BitVec.extractLsb'_toNat, Nat.shiftRight_eq_div_pow]
  omega

/-- A word is its bytes. -/
theorem append_bytes_four (d : Word) :
    d.extractLsb' 24 8 ++ d.extractLsb' 16 8 ++ d.extractLsb' 8 8 ++ d.extractLsb' 0 8 = d := by
  apply BitVec.eq_of_toNat_eq
  have := d.isLt
  simp only [toNat_append_byte, BitVec.extractLsb'_toNat, Nat.shiftRight_eq_div_pow]
  omega

/-- A response carries its data. -/
theorem responseData_dataBytes (st : Byte) (data : Word) : responseData (st :: dataBytes data) = data := by
  rw [dataBytes, responseData_cons, append_bytes_four]

/-! ## The lot image's words and fields (R192, R193) -/

/-- A field of a word is its bits. -/
theorem field_eq_extractLsb (w : Word) (hi lo : Nat) (h : lo ≤ hi) : field w hi lo = (w.extractLsb hi lo).toNat := by
  rw [field, BitVec.extractLsb_toNat, Nat.shiftRight_eq_div_pow]
  congr 2
  omega

/-- Word i of an image. -/
theorem imageWord_eq (bytes : Vector Byte 128) (i : Fin 32) : imageWord bytes.toList i.val = imageWordAt bytes i := by
  have h : (bytes.toList.drop (4 * i.val)).take 4 =
      [bytes[4 * i.val], bytes[4 * i.val + 1], bytes[4 * i.val + 2], bytes[4 * i.val + 3]] := by
    apply List.ext_getElem
    · simp; omega
    · intro k h1 h2
      have hk : k < 4 := by simpa using h2
      interval_cases k <;> simp
  rw [imageWord, byteField, h, natOfBytes_four, imageWordAt, BitVec.ofNat_toNat, BitVec.setWidth_eq]

/-! ## Load validation (R26) -/

/-- A list of optional values, all present. -/
theorem mapM_eq_some_iff {α β : Type} (f : α → Option β) (l : List α) (t : List β) :
    l.mapM f = some t ↔ List.Forall₂ (fun a b => f a = some b) l t := by
  induction l generalizing t with
  | nil => cases t <;> simp
  | cons a l ih =>
    cases t with
    | nil => cases h : f a <;> cases h' : l.mapM f <;> simp [List.mapM_cons, h, h']
    | cons b t =>
      simp only [List.forall₂_cons, ← ih, List.mapM_cons]
      cases f a <;> cases l.mapM f <;> simp [eq_comm]

/-- A code names a role exactly where it is the role's (R190). -/
theorem Role.ofCode_eq_some {k : Nat} {r : Role} : Role.ofCode k = some r ↔ r.code = k := by
  rcases k with _ | _ | _ | _ | _ | _ | _ | _ | k <;> cases r <;> simp [Role.ofCode, Role.code]

/-- A code names an access exactly where it is the access's (R190). -/
theorem Access.ofCode_eq_some {k : Nat} {a : Access} : Access.ofCode k = some a ↔ a.code = k := by
  rcases k with _ | _ | _ | _ | k <;> cases a <;> simp [Access.ofCode, Access.code]

/-- A code names a check mode exactly where it is the mode's (R190). -/
theorem CheckMode.ofCode_eq_some {k : Nat} {m : CheckMode} : CheckMode.ofCode k = some m ↔ m.code = k := by
  rcases k with _ | _ | _ | k <;> cases m <;> simp [CheckMode.ofCode, CheckMode.code]

/-- The top of the die address space (R26, check 7). -/
theorem CheckMode.top_eq (mode : CheckMode) : mode.top = if mode = .none then 0xFFFF else 0x7FFF := by
  cases mode <;> rfl

/-- The entry a table entry word gives (R26, checks 2, 6 and 7; R193). -/
theorem WindowEntry.parse_eq_some {mode : CheckMode} {w : Word} {e : WindowEntry} :
    WindowEntry.parse mode w = some e ↔
      e.role.code = field w 31 28 ∧
      (e.role ≠ .none → e.base.toNat = field w 15 0 ∧ e.length = field w 24 16) ∧
      (e.role = .guard → e.access.map Access.code = some (field w 27 26)) ∧ e.Ok mode := by
  have hbase : (BitVec.ofNat 16 (field w 15 0)).toNat = field w 15 0 := by
    rw [BitVec.toNat_ofNat, Nat.mod_eq_of_lt]; exact Nat.mod_lt _ (by norm_num)
  rcases e with ⟨role, base, length, access⟩
  rw [WindowEntry.parse]
  cases hr : Role.ofCode (field w 31 28) with
  | none =>
    simp only [reduceCtorEq, false_iff]
    rintro ⟨h, -⟩
    rw [Role.ofCode_eq_some.2 h] at hr
    cases hr
  | some r =>
    have hc := Role.ofCode_eq_some.1 hr
    rw [← hc]
    have hinj : ∀ r1 r2 : Role, r1.code = r2.code ↔ r1 = r2 := by
      intro r1 r2; cases r1 <;> cases r2 <;> simp [Role.code]
    simp only [hinj, CheckMode.top_eq, WindowEntry.Ok]
    have hb : ∀ b : Address, BitVec.ofNat 16 (field w 15 0) = b ↔ b.toNat = field w 15 0 := by
      intro b; rw [← BitVec.toNat_inj, hbase, eq_comm]
    have hainj : ∀ a1 a2 : Access, a1.code = a2.code ↔ a1 = a2 := by
      intro r1 r2; cases r1 <;> cases r2 <;> simp [Access.code]
    have hacc : access.map Access.code = some (field w 27 26) ↔
        ∃ a, Access.ofCode (field w 27 26) = some a ∧ access = some a := by
      rcases access with _ | a
      · simp
      · simp [Access.ofCode_eq_some]
    generalize (if mode = CheckMode.none then 65535 else 32767 : Nat) = top
    by_cases hrr : role = r
    · subst hrr
      cases role
      case guard =>
        simp only [reduceCtorEq, ne_eq, not_false_eq_true, true_implies, false_implies, true_and, hacc]
        cases ha : Access.ofCode (field w 27 26) with
        | none => simp
        | some a =>
          simp only [Option.ite_none_right_eq_some, Option.some.injEq, WindowEntry.mk.injEq, hb, true_and,
            exists_eq_left', iff_true]
          constructor
          · rintro ⟨⟨h1, h2, h3⟩, h4, h5, h6⟩
            subst h5; subst h6
            exact ⟨⟨h4, rfl⟩, rfl, ⟨h1, h2⟩, rfl, by rw [h4]; exact h3⟩
          · rintro ⟨⟨h1, h2⟩, h3, ⟨h4, h5⟩, h6, h7⟩
            subst h3; subst h2
            rw [h1] at h7
            exact ⟨⟨h4, h5, h7⟩, h1, rfl, rfl⟩
      case none =>
        simp only [reduceCtorEq, ne_eq, not_true_eq_false, true_implies, false_implies, true_and, and_true,
          Option.some.injEq, WindowEntry.mk.injEq, iff_false]
        constructor
        · rintro ⟨h1, h2, h3⟩; subst h1 h2 h3; simp
        · rintro ⟨⟨h1, h2, h3⟩, h4⟩; subst h1 h2 h3; simp
      all_goals
        dsimp only
        simp only [reduceCtorEq, ne_eq, not_false_eq_true, true_implies, false_implies, true_and, iff_false]
        constructor
        · intro h
          split at h
          · rename_i hc
            simp only [Option.some.injEq, WindowEntry.mk.injEq, true_and, hb] at h
            obtain ⟨h3, h4, h5⟩ := h
            subst h4; subst h5
            exact ⟨⟨h3, rfl⟩, hc.1, by simp, by rw [h3]; exact hc.2⟩
          · cases h
        · rintro ⟨⟨h1, h2⟩, h3, h4, h5⟩
          rcases access with _ | a
          · rw [h1, h2] at h5; rw [h2] at h3
            refine (if_pos ⟨h3, h5⟩).trans ?_
            simp [hb, h1, h2]
          · simp at h4
    · have hf : ∀ (P Q : Prop), ¬P → (P ↔ (role = r ∧ Q)) := fun P Q hP => ⟨fun h => absurd h hP, fun h => absurd h.1 hrr⟩
      apply hf
      cases r
      case guard =>
        cases Access.ofCode (field w 27 26) with
        | none => simp
        | some a =>
          simp only [Option.ite_none_right_eq_some, Option.some.injEq, WindowEntry.mk.injEq]
          exact fun h => hrr h.2.1.symm
      case none =>
        simp only [Option.some.injEq, WindowEntry.mk.injEq]
        exact fun h => hrr h.1.symm
      all_goals
        dsimp only
        intro h
        split at h
        · simp only [Option.some.injEq, WindowEntry.mk.injEq] at h
          exact hrr h.1.symm
        · cases h

/-- The table that an image gives (R26). -/
theorem parseTable_eq_some {mode : CheckMode} {bs : List Byte} {table : Vector WindowEntry 16} :
    parseTable mode bs = some table ↔
      (∀ i : Fin 16, WindowEntry.parse mode (imageWord bs (12 + i.val)) = some table[i]) ∧
      tableCounts table.toList = true ∧ tableCompatible table.toList = true := by
  have hforall : (List.range 16).mapM (fun i => WindowEntry.parse mode (imageWord bs (12 + i))) = some table.toList ↔
      ∀ i : Fin 16, WindowEntry.parse mode (imageWord bs (12 + i.val)) = some table[i] := by
    rw [mapM_eq_some_iff, List.forall₂_iff_get]
    constructor
    · rintro ⟨_, h⟩ i
      simpa using h i.val (by simp) (by simp)
    · intro h
      refine ⟨by simp, fun i h1 h2 => ?_⟩
      simpa using h ⟨i, by simpa using h1⟩
  rw [← hforall, parseTable]
  cases h : (List.range 16).mapM (fun i => WindowEntry.parse mode (imageWord bs (12 + i))) with
  | none => simp
  | some t =>
    simp only [Option.some.injEq]
    constructor
    · intro ht
      split at ht
      · split at ht
        · rename_i hl hc
          simp only [Option.some.injEq] at ht
          subst ht
          simpa using hc
        · cases ht
      · cases ht
    · rintro ⟨ht, hc, hd⟩
      subst ht
      rw [dif_pos table.length_toList, if_pos (by rw [hc, hd]; rfl)]
      rfl

/-- Every pair of entries is compatible. -/
theorem tableCompatible_iff {t : List WindowEntry} :
    tableCompatible t = true ↔ t.Pairwise (fun a b => a.compatible b = true) := by
  induction t with
  | nil => simp [tableCompatible]
  | cons a t ih => simp [tableCompatible, ih]

/-- Overlap is symmetric. -/
theorem overlaps_comm (a b : WindowEntry) : a.overlaps b = b.overlaps a := by
  simp only [WindowEntry.overlaps]
  cases (a.role != .none) <;> cases (b.role != .none) <;> simp [Bool.and_comm]

/-- Compatibility is symmetric. -/
theorem compatible_comm (a b : WindowEntry) : a.compatible b = b.compatible a := by
  simp only [WindowEntry.compatible, overlaps_comm a b]
  cases (a.role != .claim) <;> cases (b.role != .claim) <;> simp [Bool.or_comm]

/-- The counts of R26, checks 4 and 5. -/
theorem tableCounts_iff {t : List WindowEntry} : tableCounts t = true ↔
    (∀ r ∈ [Role.ident, .stage, .arm, .status, .check, .claim], t.countP (·.role = r) = 1) ∧
    t.countP (·.role = .guard) ≤ 10 := by
  have h : ∀ r : Role, t.countP (·.role == r) = t.countP (fun e => decide (e.role = r)) := fun r => by
    congr 1
  simp [tableCounts, h]

/-- The table checks of R26 (4, 5, 8 and 9), on entries that are each in order. -/
theorem tableOk_iff {im : LotImage} (hok : ∀ i : Fin 16, im.table[i].Ok im.checkMode) :
    tableCounts im.table.toList = true ∧ tableCompatible im.table.toList = true ↔ im.TableOk := by
  rw [tableCounts_iff, tableCompatible_iff, LotImage.TableOk, and_assoc]
  refine and_congr_right fun _ => and_congr_right fun _ => ?_
  have hlen : ∀ i : Fin 16, im.table[i].role ≠ .none → 1 ≤ im.table[i].length := by
    intro i hi
    obtain ⟨-, h1, h2, h3, h4, h5, h6, h7, -⟩ := hok i
    cases hr : im.table[i].role
    · exact absurd hr hi
    · rw [h1 hr]; omega
    · rw [h2 hr]; omega
    · rw [h3 hr]
    · rw [h4 hr]
    · rw [h5 hr]; omega
    · rw [h6 hr]; omega
    · exact (h7 hr).1
  have hpair : im.table.toList.Pairwise (fun a b => a.compatible b = true) ↔
      ∀ i j : Fin 16, i ≠ j → im.table[i].compatible im.table[j] = true := by
    rw [List.pairwise_iff_getElem]
    constructor
    · intro h i j hij
      rcases lt_or_gt_of_ne hij with hlt | hlt
      · simpa using h i.val j.val (by simp) (by simp) hlt
      · rw [compatible_comm]; simpa using h j.val i.val (by simp) (by simp) hlt
    · intro h i j hi hj hij
      simpa using h ⟨i, by simpa using hi⟩ ⟨j, by simpa using hj⟩ (by simp; omega)
  rw [hpair]
  constructor
  · intro h i j hij hi hj h1 h2
    have hc := h i j hij
    have ho : im.table[i].overlaps im.table[j] = true := by
      have := hlen j hj
      simp [WindowEntry.overlaps, hi, hj, h2, -Fin.getElem_fin]
      omega
    simpa [WindowEntry.compatible, ho, and_assoc, -Fin.getElem_fin] using hc
  · intro h i j hij
    by_cases ho : im.table[i].overlaps im.table[j] = true
    · have ho' := ho
      simp only [WindowEntry.overlaps, Bool.and_eq_true, bne_iff_ne, ne_eq, decide_eq_true_eq] at ho'
      obtain ⟨⟨hi, hj⟩, h1, h2⟩ := ho'
      have : im.table[i].role ≠ .claim ∧ im.table[j].role ≠ .claim ∧
          (im.table[i].role = .guard ∨ im.table[j].role = .guard) := by
        rcases Nat.le_total im.table[i].base.toNat im.table[j].base.toNat with hle | hle
        · exact h i j hij hi hj hle h2
        · have := h j i hij.symm hj hi hle h1
          exact ⟨this.2.1, this.1, this.2.2.symm⟩
      simp [WindowEntry.compatible, ho, this, -Fin.getElem_fin]
    · simp [WindowEntry.compatible, ho, -Fin.getElem_fin]

/-- R26, checks 1 and 3, on fields within their bits. -/
theorem inRange_iff (bs : List Byte) (mode : CheckMode) (table : Vector WindowEntry 16) :
    (imageFields bs mode table).inRange = true ↔ (imageFields bs mode table).FieldsOk := by
  have hf : ∀ w hi lo, field w hi lo < 2 ^ (hi + 1 - lo) := fun w hi lo => Nat.mod_lt _ (by positivity)
  have h1 := hf (imageWord bs 7) 9 0
  have h2 := hf (imageWord bs 8) 25 16
  have h3 := hf (imageWord bs 9) 31 16
  have h4 := hf (imageWord bs 9) 15 0
  have h5 := hf (imageWord bs 8) 7 0
  have h6 := hf (imageWord bs 10) 12 8
  have h7 := hf (imageWord bs 10) 20 16
  have h8 := hf (imageWord bs 6) 23 0
  have h9 := hf (imageWord bs 7) 18 16
  norm_num at h1 h2 h3 h4 h5 h6 h7 h8 h9
  simp [LotImage.inRange, LotImage.FieldsOk, imageFields]
  constructor
  · rintro ⟨⟨⟨⟨⟨⟨⟨⟨⟨a, b⟩, c⟩, d⟩, e⟩, f⟩, g⟩, h⟩, i⟩, j⟩
    simp only [h, i, j, not_false_eq_true, and_true]
    omega
  · rintro ⟨a, h, i, j⟩
    simp only [h, i, j, not_false_eq_true, and_true]
    omega

/-- The image that bytes give (R26). -/
theorem parseImage_eq_some {bytes : Vector Byte 128} {im : LotImage} :
    parseImage bytes = some im ↔
      im = imageFields bytes.toList im.checkMode im.table ∧
      im.checkMode.code = field (imageWord bytes.toList 10) 1 0 ∧
      parseTable im.checkMode bytes.toList = some im.table ∧ im.inRange = true := by
  rw [parseImage]
  constructor
  · intro h
    split at h
    · cases h
    · rename_i mode hm
      split at h
      · cases h
      · rename_i table ht
        split at h
        · rename_i hr
          simp only [Option.some.injEq] at h
          subst h
          exact ⟨rfl, CheckMode.ofCode_eq_some.1 hm, ht, hr⟩
        · cases h
  · rintro ⟨h1, h2, h3, h4⟩
    rw [CheckMode.ofCode_eq_some.2 h2]
    simp only [h3]
    rw [h1] at h4
    rw [if_pos h4, ← h1]

end Sys2Proof.Machine
end

