-- ==== Sys2Proof/Laws/State.lean ====
section
/-! SUPPORT. One lemma per field per update of State, each true by unfolding, so that no proof opens a record update; and
what an updated per-site vector holds. Sites index vectors as `Fin 8`: `simp` keeps that form with `-Fin.getElem_fin`. -/

namespace Sys2Proof.Machine

/-! ## Per-site vectors -/

/-- Reading a vector after an update at the same index. -/
@[simp] theorem perSite_set_self {α : Type} {k : Nat} (v : Vector α k) (n : Fin k) (x : α) : (v.set n x)[n] = x := by
  simp

/-- Reading a vector after an update at another index. -/
theorem perSite_set_ne {α : Type} {k : Nat} (v : Vector α k) {n m : Fin k} (x : α) (h : m ≠ n) :
    (v.set n x)[m] = v[m] := by
  have h' : n.val ≠ m.val := fun e => h (Fin.ext e.symm)
  simp [h']

/-- Reading a vector after an update, at any index. -/
theorem perSite_set {α : Type} {k : Nat} (v : Vector α k) (n m : Fin k) (x : α) :
    (v.set n x)[m] = if m = n then x else v[m] := by
  by_cases h : m = n
  · subst h; simp
  · simp [h, perSite_set_ne v x h]

/-- Reading a tabulated vector. -/
@[simp] theorem perSite_ofFn {α : Type} {k : Nat} (f : Fin k → α) (m : Fin k) : (Vector.ofFn f)[m] = f m := by
  simp

/-- Reading a constant vector. -/
@[simp] theorem perSite_replicate {α : Type} {k : Nat} (x : α) (m : Fin k) : (Vector.replicate k x)[m] = x := by
  simp

/-- Two per-site vectors with equal entries are equal. -/
theorem perSite_ext {α : Type} {k : Nat} {v w : Vector α k} (h : ∀ n : Fin k, v[n] = w[n]) : v = w := by
  apply Vector.ext
  intro i hi
  exact h ⟨i, hi⟩

/-! ## Fields of updated states -/

/-! ### setLane -/

@[simp] theorem State.setLane_lot (s : State) (n : Site) (l : Lane) : (s.setLane n l).lot = s.lot := rfl
@[simp] theorem State.setLane_supply (s : State) (n : Site) (l : Lane) : (s.setLane n l).supply = s.supply := rfl
@[simp] theorem State.setLane_pool (s : State) (n : Site) (l : Lane) : (s.setLane n l).pool = s.pool := rfl
@[simp] theorem State.setLane_sites (s : State) (n : Site) (l : Lane) : (s.setLane n l).sites = s.sites := rfl
@[simp] theorem State.setLane_timers (s : State) (n : Site) (l : Lane) : (s.setLane n l).timers = s.timers := rfl
@[simp] theorem State.setLane_lanes (s : State) (n : Site) (l : Lane) : (s.setLane n l).lanes = s.lanes.set n l := rfl
@[simp] theorem State.setLane_exc (s : State) (n : Site) (l : Lane) : (s.setLane n l).exc = s.exc := rfl
@[simp] theorem State.setLane_log (s : State) (n : Site) (l : Lane) : (s.setLane n l).log = s.log := rfl
@[simp] theorem State.setLane_alert (s : State) (n : Site) (l : Lane) : (s.setLane n l).alert = s.alert := rfl
@[simp] theorem State.setLane_tallies (s : State) (n : Site) (l : Lane) : (s.setLane n l).tallies = s.tallies := rfl
@[simp] theorem State.setLane_pointers (s : State) (n : Site) (l : Lane) : (s.setLane n l).pointers = s.pointers := rfl
@[simp] theorem State.setLane_latches (s : State) (n : Site) (l : Lane) : (s.setLane n l).latches = s.latches := rfl
@[simp] theorem State.setLane_sent (s : State) (n : Site) (l : Lane) : (s.setLane n l).sent = s.sent := rfl
@[simp] theorem State.setLane_pending (s : State) (n : Site) (l : Lane) : (s.setLane n l).pending = s.pending := rfl

/-! ### setSite -/

@[simp] theorem State.setSite_lot (s : State) (n : Site) (c : SiteContext) : (s.setSite n c).lot = s.lot := rfl
@[simp] theorem State.setSite_supply (s : State) (n : Site) (c : SiteContext) : (s.setSite n c).supply = s.supply := rfl
@[simp] theorem State.setSite_pool (s : State) (n : Site) (c : SiteContext) : (s.setSite n c).pool = s.pool := rfl
@[simp] theorem State.setSite_sites (s : State) (n : Site) (c : SiteContext) : (s.setSite n c).sites = s.sites.set n c := rfl
@[simp] theorem State.setSite_timers (s : State) (n : Site) (c : SiteContext) : (s.setSite n c).timers = s.timers := rfl
@[simp] theorem State.setSite_lanes (s : State) (n : Site) (c : SiteContext) : (s.setSite n c).lanes = s.lanes := rfl
@[simp] theorem State.setSite_exc (s : State) (n : Site) (c : SiteContext) : (s.setSite n c).exc = s.exc := rfl
@[simp] theorem State.setSite_log (s : State) (n : Site) (c : SiteContext) : (s.setSite n c).log = s.log := rfl
@[simp] theorem State.setSite_alert (s : State) (n : Site) (c : SiteContext) : (s.setSite n c).alert = s.alert := rfl
@[simp] theorem State.setSite_tallies (s : State) (n : Site) (c : SiteContext) : (s.setSite n c).tallies = s.tallies := rfl
@[simp] theorem State.setSite_pointers (s : State) (n : Site) (c : SiteContext) : (s.setSite n c).pointers = s.pointers := rfl
@[simp] theorem State.setSite_latches (s : State) (n : Site) (c : SiteContext) : (s.setSite n c).latches = s.latches := rfl
@[simp] theorem State.setSite_sent (s : State) (n : Site) (c : SiteContext) : (s.setSite n c).sent = s.sent := rfl
@[simp] theorem State.setSite_pending (s : State) (n : Site) (c : SiteContext) : (s.setSite n c).pending = s.pending := rfl

/-! ### setTimers -/

@[simp] theorem State.setTimers_lot (s : State) (n : Site) (t : SiteTimers) : (s.setTimers n t).lot = s.lot := rfl
@[simp] theorem State.setTimers_supply (s : State) (n : Site) (t : SiteTimers) : (s.setTimers n t).supply = s.supply := rfl
@[simp] theorem State.setTimers_pool (s : State) (n : Site) (t : SiteTimers) : (s.setTimers n t).pool = s.pool := rfl
@[simp] theorem State.setTimers_sites (s : State) (n : Site) (t : SiteTimers) : (s.setTimers n t).sites = s.sites := rfl
@[simp] theorem State.setTimers_timers (s : State) (n : Site) (t : SiteTimers) : (s.setTimers n t).timers = s.timers.set n t := rfl
@[simp] theorem State.setTimers_lanes (s : State) (n : Site) (t : SiteTimers) : (s.setTimers n t).lanes = s.lanes := rfl
@[simp] theorem State.setTimers_exc (s : State) (n : Site) (t : SiteTimers) : (s.setTimers n t).exc = s.exc := rfl
@[simp] theorem State.setTimers_log (s : State) (n : Site) (t : SiteTimers) : (s.setTimers n t).log = s.log := rfl
@[simp] theorem State.setTimers_alert (s : State) (n : Site) (t : SiteTimers) : (s.setTimers n t).alert = s.alert := rfl
@[simp] theorem State.setTimers_tallies (s : State) (n : Site) (t : SiteTimers) : (s.setTimers n t).tallies = s.tallies := rfl
@[simp] theorem State.setTimers_pointers (s : State) (n : Site) (t : SiteTimers) : (s.setTimers n t).pointers = s.pointers := rfl
@[simp] theorem State.setTimers_latches (s : State) (n : Site) (t : SiteTimers) : (s.setTimers n t).latches = s.latches := rfl
@[simp] theorem State.setTimers_sent (s : State) (n : Site) (t : SiteTimers) : (s.setTimers n t).sent = s.sent := rfl
@[simp] theorem State.setTimers_pending (s : State) (n : Site) (t : SiteTimers) : (s.setTimers n t).pending = s.pending := rfl

/-! ### setWaiting -/

@[simp] theorem State.setWaiting_lot (s : State) (n : Site) (b : Bool) : (s.setWaiting n b).lot = s.lot := rfl
@[simp] theorem State.setWaiting_supply (s : State) (n : Site) (b : Bool) : (s.setWaiting n b).supply = s.supply := rfl
@[simp] theorem State.setWaiting_pool (s : State) (n : Site) (b : Bool) : (s.setWaiting n b).pool = { s.pool with waiting := s.pool.waiting.set n b } := rfl
@[simp] theorem State.setWaiting_sites (s : State) (n : Site) (b : Bool) : (s.setWaiting n b).sites = s.sites := rfl
@[simp] theorem State.setWaiting_timers (s : State) (n : Site) (b : Bool) : (s.setWaiting n b).timers = s.timers := rfl
@[simp] theorem State.setWaiting_lanes (s : State) (n : Site) (b : Bool) : (s.setWaiting n b).lanes = s.lanes := rfl
@[simp] theorem State.setWaiting_exc (s : State) (n : Site) (b : Bool) : (s.setWaiting n b).exc = s.exc := rfl
@[simp] theorem State.setWaiting_log (s : State) (n : Site) (b : Bool) : (s.setWaiting n b).log = s.log := rfl
@[simp] theorem State.setWaiting_alert (s : State) (n : Site) (b : Bool) : (s.setWaiting n b).alert = s.alert := rfl
@[simp] theorem State.setWaiting_tallies (s : State) (n : Site) (b : Bool) : (s.setWaiting n b).tallies = s.tallies := rfl
@[simp] theorem State.setWaiting_pointers (s : State) (n : Site) (b : Bool) : (s.setWaiting n b).pointers = s.pointers := rfl
@[simp] theorem State.setWaiting_latches (s : State) (n : Site) (b : Bool) : (s.setWaiting n b).latches = s.latches := rfl
@[simp] theorem State.setWaiting_sent (s : State) (n : Site) (b : Bool) : (s.setWaiting n b).sent = s.sent := rfl
@[simp] theorem State.setWaiting_pending (s : State) (n : Site) (b : Bool) : (s.setWaiting n b).pending = s.pending := rfl

/-! ### send -/

@[simp] theorem State.send_lot (s : State) (x : Sent) : (s.send x).lot = s.lot := rfl
@[simp] theorem State.send_supply (s : State) (x : Sent) : (s.send x).supply = s.supply := rfl
@[simp] theorem State.send_pool (s : State) (x : Sent) : (s.send x).pool = s.pool := rfl
@[simp] theorem State.send_sites (s : State) (x : Sent) : (s.send x).sites = s.sites := rfl
@[simp] theorem State.send_timers (s : State) (x : Sent) : (s.send x).timers = s.timers := rfl
@[simp] theorem State.send_lanes (s : State) (x : Sent) : (s.send x).lanes = s.lanes := rfl
@[simp] theorem State.send_exc (s : State) (x : Sent) : (s.send x).exc = s.exc := rfl
@[simp] theorem State.send_log (s : State) (x : Sent) : (s.send x).log = s.log := rfl
@[simp] theorem State.send_alert (s : State) (x : Sent) : (s.send x).alert = s.alert := rfl
@[simp] theorem State.send_tallies (s : State) (x : Sent) : (s.send x).tallies = s.tallies := rfl
@[simp] theorem State.send_pointers (s : State) (x : Sent) : (s.send x).pointers = s.pointers := rfl
@[simp] theorem State.send_latches (s : State) (x : Sent) : (s.send x).latches = s.latches := rfl
@[simp] theorem State.send_sent (s : State) (x : Sent) : (s.send x).sent = s.sent ++ [x] := rfl
@[simp] theorem State.send_pending (s : State) (x : Sent) : (s.send x).pending = s.pending := rfl

/-! ### stopKeyWait -/

@[simp] theorem State.stopKeyWait_lot (s : State) (n : Site) : (s.stopKeyWait n).lot = s.lot := rfl
@[simp] theorem State.stopKeyWait_supply (s : State) (n : Site) : (s.stopKeyWait n).supply = s.supply := rfl
@[simp] theorem State.stopKeyWait_pool (s : State) (n : Site) : (s.stopKeyWait n).pool = s.pool := rfl
@[simp] theorem State.stopKeyWait_sites (s : State) (n : Site) : (s.stopKeyWait n).sites = s.sites := rfl
@[simp] theorem State.stopKeyWait_timers (s : State) (n : Site) : (s.stopKeyWait n).timers = s.timers.set n { s.timers[n] with keyWait := .stopped } := rfl
@[simp] theorem State.stopKeyWait_lanes (s : State) (n : Site) : (s.stopKeyWait n).lanes = s.lanes := rfl
@[simp] theorem State.stopKeyWait_exc (s : State) (n : Site) : (s.stopKeyWait n).exc = s.exc := rfl
@[simp] theorem State.stopKeyWait_log (s : State) (n : Site) : (s.stopKeyWait n).log = s.log := rfl
@[simp] theorem State.stopKeyWait_alert (s : State) (n : Site) : (s.stopKeyWait n).alert = s.alert := rfl
@[simp] theorem State.stopKeyWait_tallies (s : State) (n : Site) : (s.stopKeyWait n).tallies = s.tallies := rfl
@[simp] theorem State.stopKeyWait_pointers (s : State) (n : Site) : (s.stopKeyWait n).pointers = s.pointers := rfl
@[simp] theorem State.stopKeyWait_latches (s : State) (n : Site) : (s.stopKeyWait n).latches = s.latches := rfl
@[simp] theorem State.stopKeyWait_sent (s : State) (n : Site) : (s.stopKeyWait n).sent = s.sent := rfl
@[simp] theorem State.stopKeyWait_pending (s : State) (n : Site) : (s.stopKeyWait n).pending = s.pending := rfl

/-! ### stopBurnTimers -/

@[simp] theorem State.stopBurnTimers_lot (s : State) (n : Site) : (s.stopBurnTimers n).lot = s.lot := rfl
@[simp] theorem State.stopBurnTimers_supply (s : State) (n : Site) : (s.stopBurnTimers n).supply = s.supply := rfl
@[simp] theorem State.stopBurnTimers_pool (s : State) (n : Site) : (s.stopBurnTimers n).pool = s.pool := rfl
@[simp] theorem State.stopBurnTimers_sites (s : State) (n : Site) : (s.stopBurnTimers n).sites = s.sites := rfl
@[simp] theorem State.stopBurnTimers_timers (s : State) (n : Site) : (s.stopBurnTimers n).timers = s.timers.set n { s.timers[n] with dwell := .stopped, watchdog := .stopped } := rfl
@[simp] theorem State.stopBurnTimers_lanes (s : State) (n : Site) : (s.stopBurnTimers n).lanes = s.lanes := rfl
@[simp] theorem State.stopBurnTimers_exc (s : State) (n : Site) : (s.stopBurnTimers n).exc = s.exc := rfl
@[simp] theorem State.stopBurnTimers_log (s : State) (n : Site) : (s.stopBurnTimers n).log = s.log := rfl
@[simp] theorem State.stopBurnTimers_alert (s : State) (n : Site) : (s.stopBurnTimers n).alert = s.alert := rfl
@[simp] theorem State.stopBurnTimers_tallies (s : State) (n : Site) : (s.stopBurnTimers n).tallies = s.tallies := rfl
@[simp] theorem State.stopBurnTimers_pointers (s : State) (n : Site) : (s.stopBurnTimers n).pointers = s.pointers := rfl
@[simp] theorem State.stopBurnTimers_latches (s : State) (n : Site) : (s.stopBurnTimers n).latches = s.latches := rfl
@[simp] theorem State.stopBurnTimers_sent (s : State) (n : Site) : (s.stopBurnTimers n).sent = s.sent := rfl
@[simp] theorem State.stopBurnTimers_pending (s : State) (n : Site) : (s.stopBurnTimers n).pending = s.pending := rfl

/-! ### answer -/

@[simp] theorem State.answer_lot (s : State) (n : Site) (st : Status) (d : Option Word) : (s.answer n st d).lot = s.lot := rfl
@[simp] theorem State.answer_supply (s : State) (n : Site) (st : Status) (d : Option Word) : (s.answer n st d).supply = s.supply := rfl
@[simp] theorem State.answer_pool (s : State) (n : Site) (st : Status) (d : Option Word) : (s.answer n st d).pool = s.pool := rfl
@[simp] theorem State.answer_sites (s : State) (n : Site) (st : Status) (d : Option Word) : (s.answer n st d).sites = s.sites := rfl
@[simp] theorem State.answer_timers (s : State) (n : Site) (st : Status) (d : Option Word) : (s.answer n st d).timers = s.timers := rfl
@[simp] theorem State.answer_lanes (s : State) (n : Site) (st : Status) (d : Option Word) : (s.answer n st d).lanes = s.lanes := rfl
@[simp] theorem State.answer_exc (s : State) (n : Site) (st : Status) (d : Option Word) : (s.answer n st d).exc = s.exc := rfl
@[simp] theorem State.answer_log (s : State) (n : Site) (st : Status) (d : Option Word) : (s.answer n st d).log = s.log := rfl
@[simp] theorem State.answer_alert (s : State) (n : Site) (st : Status) (d : Option Word) : (s.answer n st d).alert = s.alert := rfl
@[simp] theorem State.answer_tallies (s : State) (n : Site) (st : Status) (d : Option Word) : (s.answer n st d).tallies = s.tallies := rfl
@[simp] theorem State.answer_pointers (s : State) (n : Site) (st : Status) (d : Option Word) : (s.answer n st d).pointers = s.pointers := rfl
@[simp] theorem State.answer_latches (s : State) (n : Site) (st : Status) (d : Option Word) : (s.answer n st d).latches = s.latches := rfl
@[simp] theorem State.answer_sent (s : State) (n : Site) (st : Status) (d : Option Word) : (s.answer n st d).sent = s.sent ++ [.upstream n ⟨st, d⟩] := rfl
@[simp] theorem State.answer_pending (s : State) (n : Site) (st : Status) (d : Option Word) : (s.answer n st d).pending = s.pending := rfl

/-! ### forward -/

@[simp] theorem State.forward_lot (s : State) (n : Site) (t : Transaction) (d : Option Word) : (s.forward n t d).lot = s.lot := rfl
@[simp] theorem State.forward_supply (s : State) (n : Site) (t : Transaction) (d : Option Word) : (s.forward n t d).supply = s.supply := rfl
@[simp] theorem State.forward_pool (s : State) (n : Site) (t : Transaction) (d : Option Word) : (s.forward n t d).pool = s.pool := rfl
@[simp] theorem State.forward_sites (s : State) (n : Site) (t : Transaction) (d : Option Word) : (s.forward n t d).sites = s.sites := rfl
@[simp] theorem State.forward_timers (s : State) (n : Site) (t : Transaction) (d : Option Word) : (s.forward n t d).timers = s.timers := rfl
@[simp] theorem State.forward_lanes (s : State) (n : Site) (t : Transaction) (d : Option Word) : (s.forward n t d).lanes = s.lanes.set n ⟨.outbound, .running 0 s.responseLimit, some t⟩ := rfl
@[simp] theorem State.forward_exc (s : State) (n : Site) (t : Transaction) (d : Option Word) : (s.forward n t d).exc = s.exc := rfl
@[simp] theorem State.forward_log (s : State) (n : Site) (t : Transaction) (d : Option Word) : (s.forward n t d).log = s.log := rfl
@[simp] theorem State.forward_alert (s : State) (n : Site) (t : Transaction) (d : Option Word) : (s.forward n t d).alert = s.alert := rfl
@[simp] theorem State.forward_tallies (s : State) (n : Site) (t : Transaction) (d : Option Word) : (s.forward n t d).tallies = s.tallies := rfl
@[simp] theorem State.forward_pointers (s : State) (n : Site) (t : Transaction) (d : Option Word) : (s.forward n t d).pointers = s.pointers := rfl
@[simp] theorem State.forward_latches (s : State) (n : Site) (t : Transaction) (d : Option Word) : (s.forward n t d).latches = s.latches := rfl
@[simp] theorem State.forward_sent (s : State) (n : Site) (t : Transaction) (d : Option Word) : (s.forward n t d).sent = s.sent ++ [.downstream n ⟨t.kind, t.addressField, d⟩] := rfl
@[simp] theorem State.forward_pending (s : State) (n : Site) (t : Transaction) (d : Option Word) : (s.forward n t d).pending = s.pending := rfl

/-! ### lend -/

@[simp] theorem State.lend_lot (s : State) : (s.lend).lot = s.lot := rfl
@[simp] theorem State.lend_supply (s : State) : (s.lend).supply = s.supply := rfl
@[simp] theorem State.lend_pool (s : State) : (s.lend).pool = s.pool := rfl
@[simp] theorem State.lend_sites (s : State) : (s.lend).sites = s.sites := rfl
@[simp] theorem State.lend_timers (s : State) : (s.lend).timers = s.timers := rfl
@[simp] theorem State.lend_lanes (s : State) : (s.lend).lanes = s.lanes := rfl
@[simp] theorem State.lend_exc (s : State) : (s.lend).exc = s.exc := rfl
@[simp] theorem State.lend_log (s : State) : (s.lend).log = { s.log with reservations := s.log.reservations + 1 } := rfl
@[simp] theorem State.lend_alert (s : State) : (s.lend).alert = s.alert := rfl
@[simp] theorem State.lend_tallies (s : State) : (s.lend).tallies = s.tallies := rfl
@[simp] theorem State.lend_pointers (s : State) : (s.lend).pointers = s.pointers := rfl
@[simp] theorem State.lend_latches (s : State) : (s.lend).latches = s.latches := rfl
@[simp] theorem State.lend_sent (s : State) : (s.lend).sent = s.sent := rfl
@[simp] theorem State.lend_pending (s : State) : (s.lend).pending = s.pending := rfl

/-! ### releaseRes -/

@[simp] theorem State.releaseRes_lot (s : State) : (s.releaseRes).lot = s.lot := rfl
@[simp] theorem State.releaseRes_supply (s : State) : (s.releaseRes).supply = s.supply := rfl
@[simp] theorem State.releaseRes_pool (s : State) : (s.releaseRes).pool = s.pool := rfl
@[simp] theorem State.releaseRes_sites (s : State) : (s.releaseRes).sites = s.sites := rfl
@[simp] theorem State.releaseRes_timers (s : State) : (s.releaseRes).timers = s.timers := rfl
@[simp] theorem State.releaseRes_lanes (s : State) : (s.releaseRes).lanes = s.lanes := rfl
@[simp] theorem State.releaseRes_exc (s : State) : (s.releaseRes).exc = s.exc := rfl
@[simp] theorem State.releaseRes_log (s : State) : (s.releaseRes).log = { s.log with reservations := s.log.reservations - 1 } := rfl
@[simp] theorem State.releaseRes_alert (s : State) : (s.releaseRes).alert = s.alert := rfl
@[simp] theorem State.releaseRes_tallies (s : State) : (s.releaseRes).tallies = s.tallies := rfl
@[simp] theorem State.releaseRes_pointers (s : State) : (s.releaseRes).pointers = s.pointers := rfl
@[simp] theorem State.releaseRes_latches (s : State) : (s.releaseRes).latches = s.latches := rfl
@[simp] theorem State.releaseRes_sent (s : State) : (s.releaseRes).sent = s.sent := rfl
@[simp] theorem State.releaseRes_pending (s : State) : (s.releaseRes).pending = s.pending := rfl

/-! ### enqueue -/

@[simp] theorem State.enqueue_lot (s : State) (b : RecordBody) : (s.enqueue b).lot = s.lot := rfl
@[simp] theorem State.enqueue_supply (s : State) (b : RecordBody) : (s.enqueue b).supply = s.supply := rfl
@[simp] theorem State.enqueue_pool (s : State) (b : RecordBody) : (s.enqueue b).pool = s.pool := rfl
@[simp] theorem State.enqueue_sites (s : State) (b : RecordBody) : (s.enqueue b).sites = s.sites := rfl
@[simp] theorem State.enqueue_timers (s : State) (b : RecordBody) : (s.enqueue b).timers = s.timers := rfl
@[simp] theorem State.enqueue_lanes (s : State) (b : RecordBody) : (s.enqueue b).lanes = s.lanes := rfl
@[simp] theorem State.enqueue_exc (s : State) (b : RecordBody) : (s.enqueue b).exc = s.exc := rfl
@[simp] theorem State.enqueue_log (s : State) (b : RecordBody) : (s.enqueue b).log = { s.log with records := s.log.records ++ [⟨s.log.nextSeq, b⟩], nextSeq := s.log.nextSeq + 1 } := rfl
@[simp] theorem State.enqueue_alert (s : State) (b : RecordBody) : (s.enqueue b).alert = s.alert := rfl
@[simp] theorem State.enqueue_tallies (s : State) (b : RecordBody) : (s.enqueue b).tallies = s.tallies := rfl
@[simp] theorem State.enqueue_pointers (s : State) (b : RecordBody) : (s.enqueue b).pointers = s.pointers := rfl
@[simp] theorem State.enqueue_latches (s : State) (b : RecordBody) : (s.enqueue b).latches = s.latches := rfl
@[simp] theorem State.enqueue_sent (s : State) (b : RecordBody) : (s.enqueue b).sent = s.sent := rfl
@[simp] theorem State.enqueue_pending (s : State) (b : RecordBody) : (s.enqueue b).pending = s.pending := rfl

/-! ### useRes -/

@[simp] theorem State.useRes_lot (s : State) (b : RecordBody) : (s.useRes b).lot = s.lot := rfl
@[simp] theorem State.useRes_supply (s : State) (b : RecordBody) : (s.useRes b).supply = s.supply := rfl
@[simp] theorem State.useRes_pool (s : State) (b : RecordBody) : (s.useRes b).pool = s.pool := rfl
@[simp] theorem State.useRes_sites (s : State) (b : RecordBody) : (s.useRes b).sites = s.sites := rfl
@[simp] theorem State.useRes_timers (s : State) (b : RecordBody) : (s.useRes b).timers = s.timers := rfl
@[simp] theorem State.useRes_lanes (s : State) (b : RecordBody) : (s.useRes b).lanes = s.lanes := rfl
@[simp] theorem State.useRes_exc (s : State) (b : RecordBody) : (s.useRes b).exc = s.exc := rfl
@[simp] theorem State.useRes_log (s : State) (b : RecordBody) : (s.useRes b).log = ⟨s.log.records ++ [⟨s.log.nextSeq, b⟩], s.log.reservations - 1, s.log.nextSeq + 1⟩ := rfl
@[simp] theorem State.useRes_alert (s : State) (b : RecordBody) : (s.useRes b).alert = s.alert := rfl
@[simp] theorem State.useRes_tallies (s : State) (b : RecordBody) : (s.useRes b).tallies = s.tallies := rfl
@[simp] theorem State.useRes_pointers (s : State) (b : RecordBody) : (s.useRes b).pointers = s.pointers := rfl
@[simp] theorem State.useRes_latches (s : State) (b : RecordBody) : (s.useRes b).latches = s.latches := rfl
@[simp] theorem State.useRes_sent (s : State) (b : RecordBody) : (s.useRes b).sent = s.sent := rfl
@[simp] theorem State.useRes_pending (s : State) (b : RecordBody) : (s.useRes b).pending = s.pending := rfl

/-! ### raiseTally -/

@[simp] theorem State.raiseTally_lot (s : State) (t : Tally) : (s.raiseTally t).lot = s.lot := rfl
@[simp] theorem State.raiseTally_supply (s : State) (t : Tally) : (s.raiseTally t).supply = s.supply := rfl
@[simp] theorem State.raiseTally_pool (s : State) (t : Tally) : (s.raiseTally t).pool = s.pool := rfl
@[simp] theorem State.raiseTally_sites (s : State) (t : Tally) : (s.raiseTally t).sites = s.sites := rfl
@[simp] theorem State.raiseTally_timers (s : State) (t : Tally) : (s.raiseTally t).timers = s.timers := rfl
@[simp] theorem State.raiseTally_lanes (s : State) (t : Tally) : (s.raiseTally t).lanes = s.lanes := rfl
@[simp] theorem State.raiseTally_exc (s : State) (t : Tally) : (s.raiseTally t).exc = s.exc := rfl
@[simp] theorem State.raiseTally_log (s : State) (t : Tally) : (s.raiseTally t).log = s.log := rfl
@[simp] theorem State.raiseTally_alert (s : State) (t : Tally) : (s.raiseTally t).alert = s.alert := rfl
@[simp] theorem State.raiseTally_tallies (s : State) (t : Tally) : (s.raiseTally t).tallies = s.tallies.raise t := rfl
@[simp] theorem State.raiseTally_pointers (s : State) (t : Tally) : (s.raiseTally t).pointers = s.pointers := rfl
@[simp] theorem State.raiseTally_latches (s : State) (t : Tally) : (s.raiseTally t).latches = s.latches := rfl
@[simp] theorem State.raiseTally_sent (s : State) (t : Tally) : (s.raiseTally t).sent = s.sent := rfl
@[simp] theorem State.raiseTally_pending (s : State) (t : Tally) : (s.raiseTally t).pending = s.pending := rfl

/-! ### alertEvent -/

@[simp] theorem State.alertEvent_lot (s : State) (src : Source) (site : Option Site) : (s.alertEvent src site).lot = s.lot := rfl
@[simp] theorem State.alertEvent_supply (s : State) (src : Source) (site : Option Site) : (s.alertEvent src site).supply = s.supply := rfl
@[simp] theorem State.alertEvent_pool (s : State) (src : Source) (site : Option Site) : (s.alertEvent src site).pool = s.pool := rfl
@[simp] theorem State.alertEvent_sites (s : State) (src : Source) (site : Option Site) : (s.alertEvent src site).sites = s.sites := rfl
@[simp] theorem State.alertEvent_timers (s : State) (src : Source) (site : Option Site) : (s.alertEvent src site).timers = s.timers := rfl
@[simp] theorem State.alertEvent_lanes (s : State) (src : Source) (site : Option Site) : (s.alertEvent src site).lanes = s.lanes := rfl
@[simp] theorem State.alertEvent_exc (s : State) (src : Source) (site : Option Site) : (s.alertEvent src site).exc = s.exc := rfl
@[simp] theorem State.alertEvent_log (s : State) (src : Source) (site : Option Site) : (s.alertEvent src site).log = s.log := rfl
@[simp] theorem State.alertEvent_alert (s : State) (src : Source) (site : Option Site) : (s.alertEvent src site).alert = s.alert.event src site := rfl
@[simp] theorem State.alertEvent_tallies (s : State) (src : Source) (site : Option Site) : (s.alertEvent src site).tallies = s.tallies := rfl
@[simp] theorem State.alertEvent_pointers (s : State) (src : Source) (site : Option Site) : (s.alertEvent src site).pointers = s.pointers := rfl
@[simp] theorem State.alertEvent_latches (s : State) (src : Source) (site : Option Site) : (s.alertEvent src site).latches = s.latches := rfl
@[simp] theorem State.alertEvent_sent (s : State) (src : Source) (site : Option Site) : (s.alertEvent src site).sent = s.sent := rfl
@[simp] theorem State.alertEvent_pending (s : State) (src : Source) (site : Option Site) : (s.alertEvent src site).pending = s.pending := rfl

/-! ### clearSticky -/

@[simp] theorem State.clearSticky_lot (s : State) (n : Site) : (s.clearSticky n).lot = s.lot := rfl
@[simp] theorem State.clearSticky_supply (s : State) (n : Site) : (s.clearSticky n).supply = s.supply := rfl
@[simp] theorem State.clearSticky_pool (s : State) (n : Site) : (s.clearSticky n).pool = s.pool := rfl
@[simp] theorem State.clearSticky_sites (s : State) (n : Site) : (s.clearSticky n).sites = s.sites := rfl
@[simp] theorem State.clearSticky_timers (s : State) (n : Site) : (s.clearSticky n).timers = s.timers := rfl
@[simp] theorem State.clearSticky_lanes (s : State) (n : Site) : (s.clearSticky n).lanes = s.lanes := rfl
@[simp] theorem State.clearSticky_exc (s : State) (n : Site) : (s.clearSticky n).exc = { s.exc with sticky := s.exc.sticky.set n (Vector.replicate 7 false) } := rfl
@[simp] theorem State.clearSticky_log (s : State) (n : Site) : (s.clearSticky n).log = s.log := rfl
@[simp] theorem State.clearSticky_alert (s : State) (n : Site) : (s.clearSticky n).alert = s.alert := rfl
@[simp] theorem State.clearSticky_tallies (s : State) (n : Site) : (s.clearSticky n).tallies = s.tallies := rfl
@[simp] theorem State.clearSticky_pointers (s : State) (n : Site) : (s.clearSticky n).pointers = s.pointers := rfl
@[simp] theorem State.clearSticky_latches (s : State) (n : Site) : (s.clearSticky n).latches = s.latches := rfl
@[simp] theorem State.clearSticky_sent (s : State) (n : Site) : (s.clearSticky n).sent = s.sent := rfl
@[simp] theorem State.clearSticky_pending (s : State) (n : Site) : (s.clearSticky n).pending = s.pending := rfl

/-! ### raiseExc: the sticky set, and the alert controller by the mask -/

@[simp] theorem State.raiseExc_lot (s : State) (n : Site) (k : ExcKind) : (s.raiseExc n k).lot = s.lot := rfl
@[simp] theorem State.raiseExc_supply (s : State) (n : Site) (k : ExcKind) : (s.raiseExc n k).supply = s.supply := rfl
@[simp] theorem State.raiseExc_pool (s : State) (n : Site) (k : ExcKind) : (s.raiseExc n k).pool = s.pool := rfl
@[simp] theorem State.raiseExc_sites (s : State) (n : Site) (k : ExcKind) : (s.raiseExc n k).sites = s.sites := rfl
@[simp] theorem State.raiseExc_timers (s : State) (n : Site) (k : ExcKind) : (s.raiseExc n k).timers = s.timers := rfl
@[simp] theorem State.raiseExc_lanes (s : State) (n : Site) (k : ExcKind) : (s.raiseExc n k).lanes = s.lanes := rfl
@[simp] theorem State.raiseExc_exc (s : State) (n : Site) (k : ExcKind) :
    (s.raiseExc n k).exc = { s.exc with sticky := s.exc.sticky.set n (s.exc.sticky[n].set k.index true) } := rfl
@[simp] theorem State.raiseExc_log (s : State) (n : Site) (k : ExcKind) : (s.raiseExc n k).log = s.log := rfl
@[simp] theorem State.raiseExc_alert (s : State) (n : Site) (k : ExcKind) :
    (s.raiseExc n k).alert = if s.masked k then s.alert else s.alert.event .siteException (some n) := rfl
@[simp] theorem State.raiseExc_tallies (s : State) (n : Site) (k : ExcKind) : (s.raiseExc n k).tallies = s.tallies := rfl
@[simp] theorem State.raiseExc_pointers (s : State) (n : Site) (k : ExcKind) : (s.raiseExc n k).pointers = s.pointers := rfl
@[simp] theorem State.raiseExc_latches (s : State) (n : Site) (k : ExcKind) : (s.raiseExc n k).latches = s.latches := rfl
@[simp] theorem State.raiseExc_sent (s : State) (n : Site) (k : ExcKind) : (s.raiseExc n k).sent = s.sent := rfl
@[simp] theorem State.raiseExc_pending (s : State) (n : Site) (k : ExcKind) : (s.raiseExc n k).pending = s.pending := rfl

/-! ### freePort -/

@[simp] theorem State.freePort_lot (s : State) : (s.freePort).lot = s.lot := rfl
@[simp] theorem State.freePort_supply (s : State) : (s.freePort).supply = { s.supply with port := .free, timerRunning := false, page := none } := rfl
@[simp] theorem State.freePort_pool (s : State) : (s.freePort).pool = s.pool := rfl
@[simp] theorem State.freePort_sites (s : State) : (s.freePort).sites = s.sites := rfl
@[simp] theorem State.freePort_timers (s : State) : (s.freePort).timers = s.timers := rfl
@[simp] theorem State.freePort_lanes (s : State) : (s.freePort).lanes = s.lanes := rfl
@[simp] theorem State.freePort_exc (s : State) : (s.freePort).exc = s.exc := rfl
@[simp] theorem State.freePort_log (s : State) : (s.freePort).log = s.log := rfl
@[simp] theorem State.freePort_alert (s : State) : (s.freePort).alert = s.alert := rfl
@[simp] theorem State.freePort_tallies (s : State) : (s.freePort).tallies = s.tallies := rfl
@[simp] theorem State.freePort_pointers (s : State) : (s.freePort).pointers = s.pointers := rfl
@[simp] theorem State.freePort_latches (s : State) : (s.freePort).latches = s.latches := rfl
@[simp] theorem State.freePort_sent (s : State) : (s.freePort).sent = s.sent := rfl
@[simp] theorem State.freePort_pending (s : State) : (s.freePort).pending = s.pending := rfl

/-! ### retime -/

@[simp] theorem State.retime_lot (s : State) : (s.retime).lot = s.lot := rfl
@[simp] theorem State.retime_supply (s : State) : (s.retime).supply = s.supply := rfl
@[simp] theorem State.retime_pool (s : State) : (s.retime).pool = s.pool := rfl
@[simp] theorem State.retime_sites (s : State) : (s.retime).sites = s.sites := rfl
@[simp] theorem State.retime_exc (s : State) : (s.retime).exc = s.exc := rfl
@[simp] theorem State.retime_log (s : State) : (s.retime).log = s.log := rfl
@[simp] theorem State.retime_alert (s : State) : (s.retime).alert = s.alert := rfl
@[simp] theorem State.retime_tallies (s : State) : (s.retime).tallies = s.tallies := rfl
@[simp] theorem State.retime_pointers (s : State) : (s.retime).pointers = s.pointers := rfl
@[simp] theorem State.retime_latches (s : State) : (s.retime).latches = s.latches := rfl
@[simp] theorem State.retime_sent (s : State) : (s.retime).sent = s.sent := rfl
@[simp] theorem State.retime_pending (s : State) : (s.retime).pending = s.pending := rfl

/-- A lane under new parameters in force (R20). -/
@[simp] theorem State.retime_lane (s : State) (n : Site) :
    s.retime.lanes[n] = { s.lanes[n] with timer := s.lanes[n].timer.restart s.responseLimit } := by
  simp [State.retime]

/-- The timers of a site under new parameters in force (R113). -/
@[simp] theorem State.retime_timers (s : State) (n : Site) :
    s.retime.timers[n] = ⟨s.timers[n].debouncer.restart, .stopped, .stopped, .stopped⟩ := by
  simp [State.retime]

/-! ### endBinding -/

@[simp] theorem State.endBinding_lot (s : State) (n : Site) (st : SiteState) (o : LastOutcome) : (s.endBinding n st o).lot = s.lot := rfl
@[simp] theorem State.endBinding_supply (s : State) (n : Site) (st : SiteState) (o : LastOutcome) : (s.endBinding n st o).supply = s.supply := rfl
@[simp] theorem State.endBinding_pool (s : State) (n : Site) (st : SiteState) (o : LastOutcome) : (s.endBinding n st o).pool = s.pool := rfl
@[simp] theorem State.endBinding_sites (s : State) (n : Site) (st : SiteState) (o : LastOutcome) : (s.endBinding n st o).sites = s.sites.set n
      { s.sites[n] with state := st, binding := none, capture := Vector.replicate 2 none, suspect := false, lastOutcome := o } := rfl
@[simp] theorem State.endBinding_timers (s : State) (n : Site) (st : SiteState) (o : LastOutcome) : (s.endBinding n st o).timers = s.timers.set n { s.timers[n] with dwell := .stopped, watchdog := .stopped } := rfl
@[simp] theorem State.endBinding_lanes (s : State) (n : Site) (st : SiteState) (o : LastOutcome) : (s.endBinding n st o).lanes = s.lanes := rfl
@[simp] theorem State.endBinding_exc (s : State) (n : Site) (st : SiteState) (o : LastOutcome) : (s.endBinding n st o).exc = s.exc := rfl
@[simp] theorem State.endBinding_log (s : State) (n : Site) (st : SiteState) (o : LastOutcome) : (s.endBinding n st o).log = s.log := rfl
@[simp] theorem State.endBinding_alert (s : State) (n : Site) (st : SiteState) (o : LastOutcome) : (s.endBinding n st o).alert = s.alert := rfl
@[simp] theorem State.endBinding_tallies (s : State) (n : Site) (st : SiteState) (o : LastOutcome) : (s.endBinding n st o).tallies = s.tallies := rfl
@[simp] theorem State.endBinding_pointers (s : State) (n : Site) (st : SiteState) (o : LastOutcome) : (s.endBinding n st o).pointers = s.pointers := rfl
@[simp] theorem State.endBinding_latches (s : State) (n : Site) (st : SiteState) (o : LastOutcome) : (s.endBinding n st o).latches = s.latches := rfl
@[simp] theorem State.endBinding_sent (s : State) (n : Site) (st : SiteState) (o : LastOutcome) : (s.endBinding n st o).sent = s.sent := rfl
@[simp] theorem State.endBinding_pending (s : State) (n : Site) (st : SiteState) (o : LastOutcome) : (s.endBinding n st o).pending = s.pending := rfl

/-! ### vacate -/

@[simp] theorem State.vacate_lot (s : State) (n : Site) : (s.vacate n).lot = s.lot := rfl
@[simp] theorem State.vacate_supply (s : State) (n : Site) : (s.vacate n).supply = s.supply := rfl
@[simp] theorem State.vacate_pool (s : State) (n : Site) : (s.vacate n).pool = s.pool := rfl
@[simp] theorem State.vacate_sites (s : State) (n : Site) : (s.vacate n).sites = s.sites.set n { s.sites[n] with state := .vacant } := rfl
@[simp] theorem State.vacate_timers (s : State) (n : Site) : (s.vacate n).timers = s.timers := rfl
@[simp] theorem State.vacate_lanes (s : State) (n : Site) : (s.vacate n).lanes = s.lanes := rfl
@[simp] theorem State.vacate_exc (s : State) (n : Site) : (s.vacate n).exc = s.exc := rfl
@[simp] theorem State.vacate_log (s : State) (n : Site) : (s.vacate n).log = s.log := rfl
@[simp] theorem State.vacate_alert (s : State) (n : Site) : (s.vacate n).alert = s.alert := rfl
@[simp] theorem State.vacate_tallies (s : State) (n : Site) : (s.vacate n).tallies = s.tallies := rfl
@[simp] theorem State.vacate_pointers (s : State) (n : Site) : (s.vacate n).pointers = s.pointers := rfl
@[simp] theorem State.vacate_latches (s : State) (n : Site) : (s.vacate n).latches = s.latches := rfl
@[simp] theorem State.vacate_sent (s : State) (n : Site) : (s.vacate n).sent = s.sent := rfl
@[simp] theorem State.vacate_pending (s : State) (n : Site) : (s.vacate n).pending = s.pending := rfl

/-! ### establish -/

@[simp] theorem State.establish_lot (s : State) (n : Site) : (s.establish n).lot = s.lot := rfl
@[simp] theorem State.establish_supply (s : State) (n : Site) : (s.establish n).supply = s.supply := rfl
@[simp] theorem State.establish_pool (s : State) (n : Site) : (s.establish n).pool = s.pool := rfl
@[simp] theorem State.establish_sites (s : State) (n : Site) : (s.establish n).sites = s.sites.set n { SiteContext.default with state := .ready } := rfl
@[simp] theorem State.establish_timers (s : State) (n : Site) : (s.establish n).timers = s.timers.set n { s.timers[n] with debouncer := .established } := rfl
@[simp] theorem State.establish_lanes (s : State) (n : Site) : (s.establish n).lanes = s.lanes := rfl
@[simp] theorem State.establish_exc (s : State) (n : Site) : (s.establish n).exc = s.exc := rfl
@[simp] theorem State.establish_log (s : State) (n : Site) : (s.establish n).log = s.log := rfl
@[simp] theorem State.establish_alert (s : State) (n : Site) : (s.establish n).alert = s.alert := rfl
@[simp] theorem State.establish_tallies (s : State) (n : Site) : (s.establish n).tallies = s.tallies := rfl
@[simp] theorem State.establish_pointers (s : State) (n : Site) : (s.establish n).pointers = s.pointers := rfl
@[simp] theorem State.establish_latches (s : State) (n : Site) : (s.establish n).latches = s.latches := rfl
@[simp] theorem State.establish_sent (s : State) (n : Site) : (s.establish n).sent = s.sent := rfl
@[simp] theorem State.establish_pending (s : State) (n : Site) : (s.establish n).pending = s.pending := rfl

/-! ### failLoad -/

@[simp] theorem State.failLoad_lot (s : State) (e : LoadError) : (s.failLoad e).lot = { s.lot with state := .unloaded, loadError := e } := rfl
@[simp] theorem State.failLoad_supply (s : State) (e : LoadError) : (s.failLoad e).supply = s.supply := rfl
@[simp] theorem State.failLoad_pool (s : State) (e : LoadError) : (s.failLoad e).pool = s.pool := rfl
@[simp] theorem State.failLoad_sites (s : State) (e : LoadError) : (s.failLoad e).sites = s.sites := rfl
@[simp] theorem State.failLoad_timers (s : State) (e : LoadError) : (s.failLoad e).timers = s.timers := rfl
@[simp] theorem State.failLoad_lanes (s : State) (e : LoadError) : (s.failLoad e).lanes = s.lanes := rfl
@[simp] theorem State.failLoad_exc (s : State) (e : LoadError) : (s.failLoad e).exc = s.exc := rfl
@[simp] theorem State.failLoad_log (s : State) (e : LoadError) : (s.failLoad e).log = s.log := rfl
@[simp] theorem State.failLoad_alert (s : State) (e : LoadError) : (s.failLoad e).alert = s.alert.event .lot none := rfl
@[simp] theorem State.failLoad_tallies (s : State) (e : LoadError) : (s.failLoad e).tallies = s.tallies := rfl
@[simp] theorem State.failLoad_pointers (s : State) (e : LoadError) : (s.failLoad e).pointers = s.pointers := rfl
@[simp] theorem State.failLoad_latches (s : State) (e : LoadError) : (s.failLoad e).latches = s.latches := rfl
@[simp] theorem State.failLoad_sent (s : State) (e : LoadError) : (s.failLoad e).sent = s.sent := rfl
@[simp] theorem State.failLoad_pending (s : State) (e : LoadError) : (s.failLoad e).pending = s.pending := rfl

/-! ### startFetch -/

@[simp] theorem State.startFetch_lot (s : State) : (s.startFetch).lot = s.lot := rfl
@[simp] theorem State.startFetch_supply (s : State) : (s.startFetch).supply = { s.supply with
      port := .fetch, timerRunning := true, draw := some .transfer, fetchReservation := true } := rfl
@[simp] theorem State.startFetch_pool (s : State) : (s.startFetch).pool = s.pool := rfl
@[simp] theorem State.startFetch_sites (s : State) : (s.startFetch).sites = s.sites := rfl
@[simp] theorem State.startFetch_timers (s : State) : (s.startFetch).timers = s.timers := rfl
@[simp] theorem State.startFetch_lanes (s : State) : (s.startFetch).lanes = s.lanes := rfl
@[simp] theorem State.startFetch_exc (s : State) : (s.startFetch).exc = s.exc := rfl
@[simp] theorem State.startFetch_log (s : State) : (s.startFetch).log = { s.log with reservations := s.log.reservations + 1 } := rfl
@[simp] theorem State.startFetch_alert (s : State) : (s.startFetch).alert = s.alert := rfl
@[simp] theorem State.startFetch_tallies (s : State) : (s.startFetch).tallies = s.tallies := rfl
@[simp] theorem State.startFetch_pointers (s : State) : (s.startFetch).pointers = s.pointers := rfl
@[simp] theorem State.startFetch_latches (s : State) : (s.startFetch).latches = s.latches := rfl
@[simp] theorem State.startFetch_sent (s : State) : (s.startFetch).sent = s.sent ++ [.reel .fetch] := rfl
@[simp] theorem State.startFetch_pending (s : State) : (s.startFetch).pending = s.pending := rfl

/-! ### startAppend -/

@[simp] theorem State.startAppend_lot (s : State) : (s.startAppend).lot = s.lot := rfl
@[simp] theorem State.startAppend_supply (s : State) : (s.startAppend).supply = { s.supply with
      port := .append, timerRunning := true, page := some ((s.log.records.take 4).map LogRecord.seq) } := rfl
@[simp] theorem State.startAppend_pool (s : State) : (s.startAppend).pool = s.pool := rfl
@[simp] theorem State.startAppend_sites (s : State) : (s.startAppend).sites = s.sites := rfl
@[simp] theorem State.startAppend_timers (s : State) : (s.startAppend).timers = s.timers := rfl
@[simp] theorem State.startAppend_lanes (s : State) : (s.startAppend).lanes = s.lanes := rfl
@[simp] theorem State.startAppend_exc (s : State) : (s.startAppend).exc = s.exc := rfl
@[simp] theorem State.startAppend_log (s : State) : (s.startAppend).log = s.log := rfl
@[simp] theorem State.startAppend_alert (s : State) : (s.startAppend).alert = s.alert := rfl
@[simp] theorem State.startAppend_tallies (s : State) : (s.startAppend).tallies = s.tallies := rfl
@[simp] theorem State.startAppend_pointers (s : State) : (s.startAppend).pointers = s.pointers := rfl
@[simp] theorem State.startAppend_latches (s : State) : (s.startAppend).latches = s.latches := rfl
@[simp] theorem State.startAppend_sent (s : State) : (s.startAppend).sent = s.sent ++ [.reel (.append (s.log.records.take 4))] := rfl
@[simp] theorem State.startAppend_pending (s : State) : (s.startAppend).pending = s.pending := rfl

/-! ### queueClose -/

@[simp] theorem State.queueClose_lot (s : State) : (s.queueClose).lot = { s.lot with closeQueued := true } := rfl
@[simp] theorem State.queueClose_supply (s : State) : (s.queueClose).supply = s.supply := rfl
@[simp] theorem State.queueClose_pool (s : State) : (s.queueClose).pool = s.pool := rfl
@[simp] theorem State.queueClose_sites (s : State) : (s.queueClose).sites = s.sites := rfl
@[simp] theorem State.queueClose_timers (s : State) : (s.queueClose).timers = s.timers := rfl
@[simp] theorem State.queueClose_lanes (s : State) : (s.queueClose).lanes = s.lanes := rfl
@[simp] theorem State.queueClose_exc (s : State) : (s.queueClose).exc = s.exc := rfl
@[simp] theorem State.queueClose_log (s : State) : (s.queueClose).log = { s.log with records := s.log.records ++ [⟨s.log.nextSeq, .closed s.tallies⟩], nextSeq := s.log.nextSeq + 1 } := rfl
@[simp] theorem State.queueClose_alert (s : State) : (s.queueClose).alert = s.alert := rfl
@[simp] theorem State.queueClose_tallies (s : State) : (s.queueClose).tallies = s.tallies := rfl
@[simp] theorem State.queueClose_pointers (s : State) : (s.queueClose).pointers = s.pointers := rfl
@[simp] theorem State.queueClose_latches (s : State) : (s.queueClose).latches = s.latches := rfl
@[simp] theorem State.queueClose_sent (s : State) : (s.queueClose).sent = s.sent := rfl
@[simp] theorem State.queueClose_pending (s : State) : (s.queueClose).pending = s.pending := rfl

/-! ### closeLot -/

@[simp] theorem State.closeLot_lot (s : State) : (s.closeLot).lot = { s.lot with state := .closed } := rfl
@[simp] theorem State.closeLot_supply (s : State) : (s.closeLot).supply = s.supply := rfl
@[simp] theorem State.closeLot_pool (s : State) : (s.closeLot).pool = s.pool := rfl
@[simp] theorem State.closeLot_sites (s : State) : (s.closeLot).sites = s.sites := rfl
@[simp] theorem State.closeLot_timers (s : State) : (s.closeLot).timers = s.timers := rfl
@[simp] theorem State.closeLot_lanes (s : State) : (s.closeLot).lanes = s.lanes := rfl
@[simp] theorem State.closeLot_exc (s : State) : (s.closeLot).exc = s.exc := rfl
@[simp] theorem State.closeLot_log (s : State) : (s.closeLot).log = s.log := rfl
@[simp] theorem State.closeLot_alert (s : State) : (s.closeLot).alert = s.alert.event .lot none := rfl
@[simp] theorem State.closeLot_tallies (s : State) : (s.closeLot).tallies = s.tallies := rfl
@[simp] theorem State.closeLot_pointers (s : State) : (s.closeLot).pointers = s.pointers := rfl
@[simp] theorem State.closeLot_latches (s : State) : (s.closeLot).latches = s.latches := rfl
@[simp] theorem State.closeLot_sent (s : State) : (s.closeLot).sent = s.sent := rfl
@[simp] theorem State.closeLot_pending (s : State) : (s.closeLot).pending = s.pending := rfl

/-- A tick's count at one site's timers (R112). -/
@[simp] theorem State.countTick_timers (s : State) (n : Site) :
    s.countTick.timers[n] = ⟨s.timers[n].debouncer.count, s.timers[n].keyWait.count, s.timers[n].dwell.count,
      s.timers[n].watchdog.count⟩ := by
  simp [State.countTick]

/-- A tick's count at one lane's timer (R112). -/
@[simp] theorem State.countTick_lane (s : State) (n : Site) :
    s.countTick.lanes[n] = { s.lanes[n] with timer := s.lanes[n].timer.count } := by
  simp [State.countTick]

@[simp] theorem State.countTick_lot (s : State) : (s.countTick).lot = s.lot := rfl
@[simp] theorem State.countTick_supply (s : State) : (s.countTick).supply = s.supply := rfl
@[simp] theorem State.countTick_pool (s : State) : (s.countTick).pool = s.pool := rfl
@[simp] theorem State.countTick_sites (s : State) : (s.countTick).sites = s.sites := rfl
@[simp] theorem State.countTick_exc (s : State) : (s.countTick).exc = s.exc := rfl
@[simp] theorem State.countTick_log (s : State) : (s.countTick).log = s.log := rfl
@[simp] theorem State.countTick_alert (s : State) : (s.countTick).alert = s.alert := rfl
@[simp] theorem State.countTick_tallies (s : State) : (s.countTick).tallies = s.tallies := rfl
@[simp] theorem State.countTick_pointers (s : State) : (s.countTick).pointers = s.pointers := rfl
@[simp] theorem State.countTick_latches (s : State) : (s.countTick).latches = s.latches := rfl
@[simp] theorem State.countTick_sent (s : State) : (s.countTick).sent = s.sent := rfl
@[simp] theorem State.countTick_pending (s : State) : (s.countTick).pending = s.pending := rfl

end Sys2Proof.Machine
end

