-- ==== Sys2Proof/Laws/Ops.lean ====
section
/-! SUPPORT. What each shared operation can do, said once: the proofs about steps cite these lemmas and do not open the
operations. -/

namespace Sys2Proof.Machine

/-! ## Counting over sites -/

/-- One entry of a vector replaced: the count loses the old entry and gains the new one. -/
theorem countP_toList_set {α : Type} {k : Nat} (p : α → Bool) (v : Vector α k) (n : Fin k) (x : α) :
    (v.set n x).toList.countP p + (if p v[n] then 1 else 0) = v.toList.countP p + (if p x then 1 else 0) := by
  have hn : n.val < v.toList.length := by simp
  have h := List.countP_set (p := p) (l := v.toList) (a := x) hn
  have h2 : (v.set n x).toList = v.toList.set n x := by rfl
  have h3 : v.toList[n.val] = v[n] := by simp
  rw [h2, h, h3]
  have : (if p v[n] then 1 else 0) ≤ v.toList.countP p := by
    split
    · rename_i hp
      exact List.countP_pos_iff.2 ⟨v[n], by rw [← h3]; exact List.getElem_mem hn, hp⟩
    · exact Nat.zero_le _
  omega

/-- The bindings after one site context is replaced. -/
theorem bindings_set (s : State) (n : Site) (c : SiteContext) :
    (s.sites.set n c).toList.countP (·.binding.isSome) + (if s.sites[n].binding.isSome then 1 else 0) =
      s.bindings + (if c.binding.isSome then 1 else 0) :=
  countP_toList_set (·.binding.isSome) s.sites n c

/-- The waiting sites after one flag is replaced. -/
theorem waiters_set (s : State) (n : Site) (b : Bool) :
    (s.pool.waiting.set n b).toList.countP id + (if s.pool.waiting[n] then 1 else 0) =
      s.waiters + (if b then 1 else 0) :=
  countP_toList_set id s.pool.waiting n b

/-- No site holds a key where the count says so, and the other way round. -/
theorem bindings_eq_zero (s : State) : s.bindings = 0 ↔ ∀ n : Site, s.sites[n].binding = none := by
  simp only [State.bindings, List.countP_eq_zero]
  constructor
  · intro h n
    have := h s.sites[n] (by simp)
    simpa using this
  · intro h c hc
    obtain ⟨i, hi, rfl⟩ := List.mem_iff_getElem.1 hc
    have := h ⟨i, by simpa using hi⟩
    simpa using this

/-- Some site waits, by site. -/
theorem anyWaiting_iff (s : State) : s.anyWaiting = true ↔ ∃ n : Site, s.pool.waiting[n] = true := by
  simp only [State.anyWaiting, List.any_eq_true, id]
  constructor
  · rintro ⟨x, hx, rfl⟩
    obtain ⟨i, hi, he⟩ := List.mem_iff_getElem.1 hx
    exact ⟨⟨i, by simpa using hi⟩, by simpa using he⟩
  · rintro ⟨n, hn⟩
    exact ⟨_, by rw [← hn]; simp, rfl⟩

/-! ## The lot state -/

/-- The lot states without an image in force (R24). -/
theorem imageInForce_of_ne {l : LotState} (h1 : l ≠ .unloaded) (h2 : l ≠ .loading) : l.imageInForce = true := by
  cases l <;> simp_all [LotState.imageInForce]

/-- What the image in force is read from: two states with the same lot state and image read the same parameters. -/
theorem responseLimit_congr {s u : State} (h : s.lot = u.lot) : s.responseLimit = u.responseLimit := by
  simp [State.responseLimit, State.image, h]

theorem debounce_congr {s u : State} (h : s.lot = u.lot) : s.debounce = u.debounce := by
  simp [State.debounce, State.image, h]

/-! ## Arguments of commands -/

theorem siteArg_eq {b : Byte} {m : Site} (h : b.toNat = m.val) : siteArg b = some m := by
  have := m.isLt
  simp [siteArg, h]

theorem siteArg_none {b : Byte} (h : 8 ≤ b.toNat) : siteArg b = none := by
  simp [siteArg]; omega

/-- A claim-window access at an IDLE lane is the responder's (R6). -/
theorem onIdleLane_idle {s : State} {n : Site} (h : s.lanes[n].state = .idle) (f : State) : s.onIdleLane n f = f := by
  simp only [State.onIdleLane, h, if_true]

/-- A claim-window access at any other lane is BUSY (R17). -/
theorem onIdleLane_busy {s : State} {n : Site} (h : s.lanes[n].state ≠ .idle) (f : State) :
    s.onIdleLane n f = s.busy n := by
  simp only [State.onIdleLane, if_neg h]

/-- A command with a site argument in range, in a lot state that admits it (R174). -/
theorem withSiteArg_eq {s : State} {n m : Site} {arg : Byte} {f : Site → State} (h1 : s.lot.state.imageInForce = true)
    (h2 : arg.toNat = m.val) : s.withSiteArg n arg f = f m := by
  simp only [State.withSiteArg, h1, if_true, siteArg_eq h2]

/-! ## The reel port and the lot controller's own events (R37, R38, R58, R59) -/

/-- What the arbiter can do: nothing, start a FETCH that is wanted, or start an APPEND that is wanted, from FREE. -/
theorem arbitrate_cases (s : State) :
    (s.arbitrate = s ∧ (s.supply.port = .free → s.fetchWanted = false ∧ s.appendWanted = false)) ∨
    (s.arbitrate = s.startFetch ∧ s.supply.port = .free ∧ s.fetchWanted = true) ∨
    (s.arbitrate = s.startAppend ∧ s.supply.port = .free ∧ s.appendWanted = true) := by
  unfold State.arbitrate State.grant
  by_cases hp : s.supply.port = .free
  · cases hf : s.fetchWanted <;> cases ha : s.appendWanted <;> by_cases hl : 4 ≤ s.log.records.length <;> simp [hp, hl]
  · simp [hp]

/-- What the lot controller starts by itself in one event: an UNUSED spoil that is due, the CLOSE record that is due,
or nothing because neither is. -/
theorem ownEvent_cases (s : State) :
    (s.ownEvent = s.spoilUnused.arbitrate ∧ s.unusedDue = true) ∨
    (s.ownEvent = s.queueClose.arbitrate ∧ s.unusedDue = false ∧ s.closeDue = true) ∨
    (s.ownEvent = s ∧ s.unusedDue = false ∧ s.closeDue = false) := by
  unfold State.ownEvent
  cases hu : s.unusedDue <;> cases hc : s.closeDue <;> simp

/-- What the own events keep, one at a time. -/
theorem cascade_induct {P : State → Prop} (h : ∀ s, P s → P s.ownEvent) (k : Nat) (s : State) (hs : P s) :
    P (cascade k s) := by
  induction k generalizing s with
  | zero => exact hs
  | succ k ih => exact ih _ (h s hs)

/-- What the end of an event keeps: it is enough that the three starts, the two records and the condition report keep it. -/
theorem finish_induct {P : State → Prop}
    (fetch : ∀ s, P s → s.supply.port = .free → s.fetchWanted = true → P s.startFetch)
    (append : ∀ s, P s → s.supply.port = .free → s.appendWanted = true → P s.startAppend)
    (unused : ∀ s, P s → s.unusedDue = true → P s.spoilUnused)
    (close : ∀ s, P s → s.unusedDue = false → s.closeDue = true → P s.queueClose)
    (report : ∀ s, P s → P s.reportConditions) (s : State) (hs : P s) : P s.finish := by
  have arb : ∀ s, P s → P s.arbitrate := by
    intro s h
    rcases arbitrate_cases s with ⟨e, _⟩ | ⟨e, h1, h2⟩ | ⟨e, h1, h2⟩ <;> rw [e]
    · exact h
    · exact fetch s h h1 h2
    · exact append s h h1 h2
  have own : ∀ s, P s → P s.ownEvent := by
    intro s h
    rcases ownEvent_cases s with ⟨e, h1⟩ | ⟨e, h1, h2⟩ | ⟨e, _, _⟩ <;> rw [e]
    · exact arb _ (unused s h h1)
    · exact arb _ (close s h h1 h2)
    · exact h
  exact report _ (cascade_induct own _ _ (arb s hs))

/-- The key spoiled UNUSED is the one at the back of the pool (R37). -/
theorem spoilUnused_eq {s : State} {kept : List KeyEntry} {e : KeyEntry} (h : s.pool.deque = kept ++ [e]) :
    s.spoilUnused =
      { s with
        pool := { s.pool with deque := kept }
        log := { s.log with
          records := s.log.records ++ [⟨s.log.nextSeq, .spoil none e.serial .unused Ident.absent false⟩]
          nextSeq := s.log.nextSeq + 1 }
        tallies := s.tallies.raise .spoiled } := by
  simp [State.spoilUnused, h, State.lend, State.useRes, State.enqueue, State.releaseRes, State.raiseTally]

/-- A due UNUSED spoil has a key at the back of the pool. -/
theorem unusedDue_back {s : State} (h : s.unusedDue = true) :
    s.lot.state = .draining ∧ s.canLend = true ∧ ∃ kept e, s.pool.deque = kept ++ [e] := by
  simp only [State.unusedDue, Bool.and_eq_true, beq_iff_eq, Bool.not_eq_true', List.isEmpty_eq_false_iff] at h
  exact ⟨h.1.1, h.2, _, _, (List.dropLast_append_getLast h.1.2).symm⟩

/-! ### The condition report (R79, R154, R158) -/

/-- Following a condition changes request latches and nothing else. -/
theorem follow_eq (a : AlertController) (src : Source) (holds : Bool) :
    a.follow src holds = { a with latch := (a.follow src holds).latch } := by
  simp only [AlertController.follow]
  split <;> rfl

@[simp] theorem AlertController.follow_inService (a : AlertController) (src : Source) (holds : Bool) :
    (a.follow src holds).inService = a.inService := by
  rw [follow_eq]

/-- The condition report changes request latches and nothing else. -/
theorem reportConditions_eq (s : State) :
    s.reportConditions = { s with alert := { s.alert with latch := s.reportConditions.alert.latch } } := by
  simp only [State.reportConditions, AlertController.follow]
  split <;> split <;> split <;> rfl

@[simp] theorem State.reportConditions_lot (s : State) : s.reportConditions.lot = s.lot := rfl
@[simp] theorem State.reportConditions_supply (s : State) : s.reportConditions.supply = s.supply := rfl
@[simp] theorem State.reportConditions_pool (s : State) : s.reportConditions.pool = s.pool := rfl
@[simp] theorem State.reportConditions_sites (s : State) : s.reportConditions.sites = s.sites := rfl
@[simp] theorem State.reportConditions_timers (s : State) : s.reportConditions.timers = s.timers := rfl
@[simp] theorem State.reportConditions_lanes (s : State) : s.reportConditions.lanes = s.lanes := rfl
@[simp] theorem State.reportConditions_exc (s : State) : s.reportConditions.exc = s.exc := rfl
@[simp] theorem State.reportConditions_log (s : State) : s.reportConditions.log = s.log := rfl
@[simp] theorem State.reportConditions_tallies (s : State) : s.reportConditions.tallies = s.tallies := rfl
@[simp] theorem State.reportConditions_pointers (s : State) : s.reportConditions.pointers = s.pointers := rfl
@[simp] theorem State.reportConditions_latches (s : State) : s.reportConditions.latches = s.latches := rfl
@[simp] theorem State.reportConditions_sent (s : State) : s.reportConditions.sent = s.sent := rfl
@[simp] theorem State.reportConditions_pending (s : State) : s.reportConditions.pending = s.pending := rfl
@[simp] theorem State.reportConditions_inService (s : State) :
    s.reportConditions.alert.inService = s.alert.inService := by
  rw [reportConditions_eq]

/-- A condition reads the lot, the log and the deque, none of which the report changes. -/
theorem condition_congr {s u : State} (h1 : s.lot = u.lot) (h2 : s.log = u.log) (h3 : s.pool = u.pool) (src : Source) :
    s.condition src = u.condition src := by
  have hi : s.image = u.image := by simp only [State.image, h1]
  cases src
  case poolLow => show (_ && decide (s.pool.deque.length ≤ _)) = _; rw [h1, h3, hi]; rfl
  all_goals simp only [State.condition, h1, h2]

/-! ### Frames of the end of an event -/

/-- The end of an event changes no site, timer, lane, exception flag, pointer, tally latch or waiting command. -/
theorem finish_frame (s : State) :
    s.finish.sites = s.sites ∧ s.finish.timers = s.timers ∧ s.finish.lanes = s.lanes ∧ s.finish.exc = s.exc ∧
    s.finish.pointers = s.pointers ∧ s.finish.latches = s.latches ∧ s.finish.pending = s.pending ∧
    s.finish.lot.state = s.lot.state ∧ s.finish.lot.image = s.lot.image ∧ s.finish.alert.inService = s.alert.inService ∧
    s.finish.pool.waiting = s.pool.waiting ∧ s.finish.pool.ring = s.pool.ring ∧
    s.finish.pool.highest = s.pool.highest := by
  refine finish_induct (P := fun u => u.sites = s.sites ∧ u.timers = s.timers ∧ u.lanes = s.lanes ∧ u.exc = s.exc ∧
    u.pointers = s.pointers ∧ u.latches = s.latches ∧ u.pending = s.pending ∧
    u.lot.state = s.lot.state ∧ u.lot.image = s.lot.image ∧ u.alert.inService = s.alert.inService ∧
    u.pool.waiting = s.pool.waiting ∧ u.pool.ring = s.pool.ring ∧ u.pool.highest = s.pool.highest)
    (fun _ h _ _ => h) (fun _ h _ _ => h) ?_ (fun _ h _ _ => h) ?_ s
    ⟨rfl, rfl, rfl, rfl, rfl, rfl, rfl, rfl, rfl, rfl, rfl, rfl, rfl⟩
  · intro u h hd
    obtain ⟨_, _, kept, e, he⟩ := unusedDue_back hd
    rw [spoilUnused_eq he]
    exact h
  · intro u h
    rw [reportConditions_eq]
    exact h

@[simp] theorem State.finish_sites (s : State) : s.finish.sites = s.sites := (finish_frame s).1
@[simp] theorem State.finish_timers (s : State) : s.finish.timers = s.timers := (finish_frame s).2.1
@[simp] theorem State.finish_lanes (s : State) : s.finish.lanes = s.lanes := (finish_frame s).2.2.1
@[simp] theorem State.finish_exc (s : State) : s.finish.exc = s.exc := (finish_frame s).2.2.2.1
@[simp] theorem State.finish_pointers (s : State) : s.finish.pointers = s.pointers := (finish_frame s).2.2.2.2.1
@[simp] theorem State.finish_latches (s : State) : s.finish.latches = s.latches := (finish_frame s).2.2.2.2.2.1
@[simp] theorem State.finish_pending (s : State) : s.finish.pending = s.pending := (finish_frame s).2.2.2.2.2.2.1

/-! ## Keys -/

/-- The recipient of a key waits, stands in the ring, and no site above it waits (R73). -/
theorem recipient_some {p : Pool} {n : Site} (h : p.recipient = some n) :
    p.waiting[n] = true ∧ ∃ above below, p.ring = above ++ n :: below ∧ ∀ m ∈ above, p.waiting[m] = false := by
  obtain ⟨h1, above, below, h2, h3⟩ := List.find?_eq_some_iff_append.1 h
  exact ⟨h1, above, below, h2, fun m hm => by simpa using h3 m hm⟩

/-- A key that becomes available is handed to the recipient, or joins the deque where there is none (R73). -/
theorem deliver_cases (s : State) (e : KeyEntry) (front : Bool) :
    (∃ n, s.pool.recipient = some n ∧ s.deliver e front = s.handOut n e) ∨
    (s.pool.recipient = none ∧ s.deliver e front =
      { s with pool := { s.pool with deque := if front then e :: s.pool.deque else s.pool.deque ++ [e] } }) := by
  unfold State.deliver
  cases h : s.pool.recipient with
  | none => exact Or.inr ⟨rfl, rfl⟩
  | some n => exact Or.inl ⟨n, rfl, rfl⟩

/-- Rotation keeps an order of all eight sites (R75). -/
theorem rotate_order {ring : List Site} (n : Site) (h : ring.Nodup ∧ ∀ m : Site, m ∈ ring) :
    (rotate ring n).Nodup ∧ ∀ m : Site, m ∈ rotate ring n := by
  constructor
  · refine List.Nodup.append (h.1.filter _) (List.nodup_singleton n) ?_
    intro x hx hx'
    simp only [List.mem_filter, bne_iff_ne, List.mem_singleton] at hx hx'
    exact hx.2 hx'
  · intro m
    by_cases hm : m = n
    · simp [rotate, hm]
    · simp [rotate, hm, h.2 m]

/-- The ring LOWEST writes is an order of all eight sites (R76). -/
theorem lowestRing_order (n : Site) : (lowestRing n).Nodup ∧ ∀ m : Site, m ∈ lowestRing n := by
  revert n; decide

/-- A spoil at a site with a binding, whole (R101). -/
theorem spoil_eq {s : State} {n : Site} {b : Binding} (h : s.sites[n].binding = some b) (r : SpoilReason)
    (next : SiteState) :
    s.spoil n r next =
      { s with
        log := ⟨s.log.records ++ [⟨s.log.nextSeq, .spoil (some n) b.serial r s.sites[n].ident s.sites[n].suspect⟩],
          s.log.reservations - 1, s.log.nextSeq + 1⟩
        tallies := s.tallies.raise .spoiled
        sites := s.sites.set n { s.sites[n] with
          state := next, binding := none, capture := Vector.replicate 2 none, suspect := false, lastOutcome := .spoil r }
        timers := s.timers.set n { s.timers[n] with dwell := .stopped, watchdog := .stopped }
        alert := s.alert.event r.source (some n) } := by
  simp only [State.spoil, h]
  rfl

/-- A commit at a site with a binding, whole (R100). -/
theorem commit_eq {s : State} {n : Site} {b : Binding} (h : s.sites[n].binding = some b) :
    s.commit n =
      { s with
        log := ⟨s.log.records ++ [⟨s.log.nextSeq, .commit n b.serial s.sites[n].ident s.sites[n].attempts⟩],
          s.log.reservations - 1, s.log.nextSeq + 1⟩
        tallies := s.tallies.raise .committed
        sites := s.sites.set n { s.sites[n] with
          state := .finished, binding := none, capture := Vector.replicate 2 none, suspect := false,
          lastOutcome := .commit }
        timers := s.timers.set n { s.timers[n] with dwell := .stopped, watchdog := .stopped } } := by
  simp only [State.commit, h]
  rfl

/-- The end of a STAGING binding by what a die may hold of it (R90). -/
theorem endStaging_cases {s : State} {n : Site} {b : Binding} (h : s.sites[n].binding = some b) (r : SpoilReason)
    (spoiled returned : SiteState) :
    (b.reached = true ∧ s.endStaging n r spoiled returned = s.spoil n r spoiled) ∨
    (b.reached = false ∧ s.endStaging n r spoiled returned = s.returnKey n returned) := by
  simp only [State.endStaging, h]
  cases hb : b.reached <;> simp

/-! ## Held writes and the lot's changes (R16, R34, R41) -/

/-- What leaving OPEN keeps: it is enough that the end of one waiting site's held write keeps it. -/
theorem leaveOpen_induct {P : State → Prop} (h : ∀ s n, P s → s.pool.waiting[n] = true → P (s.dropHeld n .refused))
    (s : State) (hs : P s) : P s.leaveOpen := by
  unfold State.leaveOpen
  generalize List.finRange 8 = l
  induction l generalizing s with
  | nil => exact hs
  | cons n l ih =>
    apply ih
    by_cases hw : s.pool.waiting[n] = true
    · simp only [hw, if_true]; exact h s n hs hw
    · simp only [hw]; exact hs

/-- What leaving OPEN does not touch: the lot, the port, the sites, the records, the deque and the ring. -/
theorem leaveOpen_frame (s : State) :
    s.leaveOpen.lot = s.lot ∧ s.leaveOpen.supply = s.supply ∧ s.leaveOpen.sites = s.sites ∧ s.leaveOpen.exc = s.exc ∧
    s.leaveOpen.log.records = s.log.records ∧ s.leaveOpen.log.nextSeq = s.log.nextSeq ∧ s.leaveOpen.alert = s.alert ∧
    s.leaveOpen.tallies = s.tallies ∧ s.leaveOpen.pointers = s.pointers ∧ s.leaveOpen.latches = s.latches ∧
    s.leaveOpen.pending = s.pending ∧ s.leaveOpen.pool.deque = s.pool.deque ∧ s.leaveOpen.pool.ring = s.pool.ring ∧
    s.leaveOpen.pool.highest = s.pool.highest :=
  leaveOpen_induct (P := fun u => u.lot = s.lot ∧ u.supply = s.supply ∧ u.sites = s.sites ∧ u.exc = s.exc ∧
    u.log.records = s.log.records ∧ u.log.nextSeq = s.log.nextSeq ∧ u.alert = s.alert ∧
    u.tallies = s.tallies ∧ u.pointers = s.pointers ∧ u.latches = s.latches ∧ u.pending = s.pending ∧
    u.pool.deque = s.pool.deque ∧ u.pool.ring = s.pool.ring ∧ u.pool.highest = s.pool.highest)
    (fun _ _ h _ => h) s ⟨rfl, rfl, rfl, rfl, rfl, rfl, rfl, rfl, rfl, rfl, rfl, rfl, rfl, rfl⟩

@[simp] theorem State.leaveOpen_lot (s : State) : s.leaveOpen.lot = s.lot := (leaveOpen_frame s).1
@[simp] theorem State.leaveOpen_supply (s : State) : s.leaveOpen.supply = s.supply := (leaveOpen_frame s).2.1
@[simp] theorem State.leaveOpen_sites (s : State) : s.leaveOpen.sites = s.sites := (leaveOpen_frame s).2.2.1
@[simp] theorem State.leaveOpen_alert (s : State) : s.leaveOpen.alert = s.alert := (leaveOpen_frame s).2.2.2.2.2.2.1
@[simp] theorem State.leaveOpen_tallies (s : State) : s.leaveOpen.tallies = s.tallies :=
  (leaveOpen_frame s).2.2.2.2.2.2.2.1

/-- A halt acts on a lot in OPEN or DRAINING alone (R41). -/
theorem halt_of_not_active {s : State} (c : HaltCause) (h1 : s.lot.state ≠ .opened) (h2 : s.lot.state ≠ .draining) :
    s.halt c = s := by
  simp [State.halt, h1, h2]

/-! ## Requests (R4, R9, R68) -/

/-- The data of a request is read on a WRITE alone. -/
theorem request_read_data (s : State) (n : Site) (a : Address) (x y : Word) :
    s.request n .read a x = s.request n .read a y := by
  simp only [State.request, State.classify, State.byLot, Kind.data]
  split <;> [skip; rfl]
  split <;> [rfl; skip]
  split <;> [rfl; skip]
  split <;> [skip; rfl]
  split <;> rfl

/-- DAL_REQUEST with a frame as R191 packs it: what every statement about requests starts from. -/
theorem exec_dalRequest (s : State) (n : Site) (kindByte : Byte) (a : Address) (data : Word) :
    exec (requestOf n kindByte a data) s = .next (s.request n (Kind.ofByte kindByte) a data) := by
  simp only [exec, requestOf, execDalRequest, requestKind_requestFrame, requestAddress_cons, append_bytes_two]
  cases Kind.ofByte kindByte
  · rw [request_read_data]
  · rw [dataBytes, requestData_cons, append_bytes_four]

/-- A request that reaches the window match goes by its role (R9). -/
theorem exec_dalRequest_role {s : State} {n : Site} {kindByte : Byte} {a : Address} {data : Word} {k : Kind} {role : Role}
    {offset : Option Nat} (hk : Kind.ofByte kindByte = k) (h : s.ReachesRole n k a role offset) :
    exec (requestOf n kindByte a data) s =
      .next (s.byRole n (transactionOf k a (s.checkMode.dieAddress a) role offset) data) := by
  obtain ⟨⟨h1, h2, h3⟩, h4, h5, h6⟩ := h
  subst hk
  rw [exec_dalRequest]
  cases h : s.lot.state <;>
    simp_all [-Fin.getElem_fin, State.request, State.classify, State.byLot, LotState.imageInForce]

/-- A bind trigger that passes its tests is a bind claim (R85). -/
theorem exec_dalRequest_bindClaim {s : State} {n : Site} {kindByte : Byte} {a : Address} {data : Word} {o : Nat}
    (hk : Kind.ofByte kindByte = .write) (h : s.ClaimsKey n a o) :
    exec (requestOf n kindByte a data) s =
      .next (s.bindClaim n (transactionOf .write a (s.checkMode.dieAddress a) .stage (some o))) := by
  obtain ⟨h1, h2, h3, h4, _⟩ := h
  rw [exec_dalRequest_role hk h1]
  have hi : (s.image.identRequired && !s.sites[n].ident.complete) = false := by
    cases hr : s.image.identRequired
    · rfl
    · simp only [Ident.complete, h4 hr]; rfl
  simp only [State.byRole, transactionOf, State.stageWrite, h2, State.bindTrigger, hi, h3]
  rfl

/-! ## Records (R144) -/

/-- A record at the back with the next sequence keeps the records consecutive. -/
theorem seqsBelow_enqueue {rs : List LogRecord} {next : Word} (h : seqsBelow rs next) (body : RecordBody) :
    seqsBelow (rs ++ [⟨next, body⟩]) (next + 1) := by
  induction rs with
  | nil => exact ⟨by show next = next + 1 - 1; ring, trivial⟩
  | cons r rs ih =>
    refine ⟨?_, ih h.2⟩
    have hl : (rs.append [(⟨next, body⟩ : LogRecord)]).length + 1 = rs.length + 1 + 1 := by
      show (rs ++ [(⟨next, body⟩ : LogRecord)]).length + 1 = _
      simp
    have h1 : BitVec.ofNat 32 1 = (1 : Word) := rfl
    rw [h.1, hl, BitVec.ofNat_add (rs.length + 1) 1, h1]
    ring

/-- Records that leave at the front leave the rest consecutive. -/
theorem seqsBelow_drop {rs : List LogRecord} {next : Word} (h : seqsBelow rs next) (k : Nat) :
    seqsBelow (rs.drop k) next := by
  induction k generalizing rs with
  | zero => exact h
  | succ k ih =>
    cases rs with
    | nil => exact h
    | cons r rs => exact ih h.2

/-! ## Alerts (R160, R161) -/

/-- Every source is one of the eight. -/
theorem mem_sources (src : Source) : src ∈ Source.all := by cases src <;> decide

/-- Different sources have different priorities. -/
theorem priority_injective : ∀ a b : Source, a.priority = b.priority → a = b := by
  intro a b; cases a <;> cases b <;> decide

/-- The source a TAKE returns is eligible, and no eligible source is of higher priority (R161). -/
theorem highestEligible_some {a : AlertController} {src : Source} (h : a.highestEligible = some src) :
    a.eligible src = true ∧ ∀ other : Source, a.eligible other = true → src.priority ≤ other.priority := by
  refine ⟨List.find?_some h, fun other ho => ?_⟩
  obtain ⟨_, before, after, he, hb⟩ := List.find?_eq_some_iff_append.1 h
  have hm := mem_sources other
  have hs : Source.all.Pairwise (fun x y => x.priority < y.priority) := by decide
  rw [he] at hm hs
  rcases List.mem_append.1 hm with hm | hm
  · have := hb other hm; simp [ho] at this
  · rcases List.mem_cons.1 hm with rfl | hm
    · exact le_refl _
    · have := (List.pairwise_append.1 hs).2.1
      exact le_of_lt ((List.pairwise_cons.1 this).1 other hm)

/-- A TAKE finds nothing exactly where no source is eligible. -/
theorem highestEligible_none {a : AlertController} :
    a.highestEligible = none ↔ ∀ src : Source, a.eligible src = false := by
  simp only [AlertController.highestEligible, List.find?_eq_none, Bool.not_eq_true]
  exact ⟨fun h src => h src (mem_sources src), fun h src _ => h src⟩

end Sys2Proof.Machine
end

