-- ==== Sys2Proof/Tests/Slice0.lean ====
section
/-! SUPPORT. Tests: the well-formedness checks, one step of each command on small states, with the spec's worked numbers
where it gives them, and for every statement with hypotheses states and operands that meet them. -/

namespace Sys2Proof.Machine.Test

/-! ## Small states -/

/-- The next state of a command. -/
def after (c : Instr) (s : State) : State :=
  match exec c s with
  | .next t => t
  | .fault _ => s
  | .refused _ => s

/-- A lot image: one entry of each role, and a GUARD for writes over the STATUS entry. -/
def image : LotImage :=
  { LotImage.blank with
    lotId := 0x4C21, arm := 0xA5A5A5A5, statusMask := 3, busy := 1, done := 2, fail := 3
    ceiling := 100, responseLimit := 50, keyWaitLimit := 20, debounce := 5, dwellLimit := 40, watchdogLimit := 30
    retryLimit := 2, refillLevel := 1, lowLevel := 0
    table := #v[⟨.none, 0, 0, none⟩, ⟨.guard, 0x100, 4, some .write⟩, ⟨.guard, 0x240, 1, some .write⟩,
      ⟨.ident, 0x200, 4, none⟩, ⟨.stage, 0x210, 8, none⟩, ⟨.none, 0, 0, none⟩, ⟨.check, 0x220, 2, none⟩,
      ⟨.claim, 0x7F00, 16, none⟩, ⟨.arm, 0x230, 1, none⟩, ⟨.status, 0x240, 1, none⟩,
      ⟨.none, 0, 0, none⟩, ⟨.none, 0, 0, none⟩, ⟨.none, 0, 0, none⟩, ⟨.none, 0, 0, none⟩, ⟨.none, 0, 0, none⟩,
      ⟨.none, 0, 0, none⟩] }

/-- A lot in a given state with that image, its reel present and exhausted, its log empty. -/
def lot (l : LotState) : State :=
  { State.reset with
    lot := ⟨l, some image, if l = .halted then .reelLost else .none, .none, .power, false⟩
    supply := { State.reset.supply with exhausted := true, debouncer := .present }
    log := ⟨[], 0, 2⟩ }

/-- A site with established contact and a given context. -/
def contact (s : State) (n : Site) (c : SiteContext) : State :=
  (s.setTimers n { s.timers[n] with debouncer := .established }).setSite n c

/-- A READY site 0. -/
def ready (s : State) : State := contact s 0 { SiteContext.default with state := .ready }

/-- A key of serial 8120, its words 1 to 8, its expected check 0xAA and 0xBB. -/
def key : KeyEntry := ⟨8120, #v[1, 2, 3, 4, 5, 6, 7, 8], #v[0xAA, 0xBB]⟩

/-- A binding of that key. -/
def binding (full exposed : Bool) (flight : Option (Fin 8)) : Binding :=
  ⟨key.serial, key.key, key.check, Vector.replicate 8 full, exposed, flight⟩

/-- Site 0 in a state that holds that key, its reservation lent, its timers as the state has them. -/
def holding (s : State) (st : SiteState) (b : Binding) : State :=
  let s1 := contact s 0 { SiteContext.default with state := st, binding := some b, suspect := st = .armed }
  { s1.setTimers 0 ⟨.established, .stopped, if st = .staging then .running 39 40 else .stopped,
      if st = .armed then .running 29 30 else .stopped⟩ with
    log := { s.log with reservations := s.log.reservations + 1 }
    tallies := { s.tallies with fetched := s.tallies.fetched + 1 } }

/-- Site 0 waiting with its STAGE write of offset 3 held. -/
def waiting : State :=
  let s := (ready (lot .opened)).setWaiting 0 true
  { (s.setLane 0 ⟨.held, .stopped, some ⟨.write, 0x213, 0x213, .stage, some 3, true, false⟩⟩).setTimers 0
      ⟨.established, .running 19 20, .stopped, .stopped⟩ with
    log := { s.log with reservations := 1 } }

/-- A lane OUTBOUND with a transaction. -/
def sending (s : State) (n : Site) (k : Kind) (r : Role) (o : Option Nat) (observed arm : Bool) : State :=
  s.setLane n ⟨.outbound, .running 49 50, some ⟨k, 0, 0, r, o, observed, arm⟩⟩

/-- Records in the log. -/
def logged (s : State) (k : Nat) : State :=
  { s with log := { s.log with
      records := (List.range k).map fun i => ⟨BitVec.ofNat 32 (i + 1), .reject 7 .tag⟩
      nextSeq := BitVec.ofNat 32 (k + 1) } }

/-- A port that carries an operation. -/
def porting (s : State) (p : PortState) (page : Option (List Word)) : State :=
  { s with supply := { s.supply with port := p, timerRunning := true, page := page } }

/-! ## Well-formed commands -/

theorem test_wellFormed_request : (Instr.dalRequest 0 1 #v[0xFF, 0xFF] [0, 0, 0, 5]).wellFormed = true := by decide
theorem test_wellFormed_refuses_kindByte : (Instr.dalRequest 0 2 #v[0, 0] []).wellFormed = false := by decide
theorem test_wellFormed_refuses_shortWrite : (Instr.dalRequest 0 1 #v[0, 0] []).wellFormed = false := by decide
theorem test_wellFormed_refuses_statusByte : (Instr.dieResponse 0 2 []).wellFormed = false := by decide
theorem test_wellFormed_refuses_shortResponse : (Instr.dieResponse 0 0 [1, 2, 3]).wellFormed = false := by decide
theorem test_wellFormed_refuses_ownWrite : (Instr.claimWordWrite 0 9 0).wellFormed = false := by decide
theorem test_wellFormed_refuses_namedCode : (Instr.claimWordWrite 0 2 0x01000000).wellFormed = false := by decide
theorem test_wellFormed_unnamedCode : (Instr.claimWordWrite 0 2 0x08000000).wellFormed = true := by decide

/-! ## The spec's worked numbers -/

/-- R3: in ODD mode 0x0001 passes and 0x8001 fails; in EVEN mode the other way, and 0x8001 gives die address 0x0001. -/
theorem test_parity_example :
    CheckMode.odd.passes 0x0001 = true ∧ CheckMode.odd.passes 0x8001 = false ∧
    CheckMode.even.passes 0x0001 = false ∧ CheckMode.even.passes 0x8001 = true ∧
    CheckMode.even.dieAddress 0x8001 = 0x0001 := by decide

/-- R75: with sites 2 and 5 waiting in the Default ring, site 2 receives, and the ring becomes 0,1,3,4,5,6,7,2. -/
theorem test_rotation_example :
    (⟨[], ((SiteSet.empty.set 2 true).set 5 true), [0, 1, 2, 3, 4, 5, 6, 7], none⟩ : Pool).recipient = some 2 ∧
    rotate [0, 1, 2, 3, 4, 5, 6, 7] 2 = [0, 1, 3, 4, 5, 6, 7, 2] := by decide

/-- R76: LOWEST 4 and LOWEST 7. -/
theorem test_lowest_example :
    (after (.lowest 0 4) (lot .opened)).pool.ring = [5, 6, 7, 0, 1, 2, 3, 4] ∧
    (after (.lowest 0 7) (lot .opened)).pool.ring = [0, 1, 2, 3, 4, 5, 6, 7] := by decide

/-- 12.4: the body of the example COMMIT record. -/
theorem test_commit_record_example :
    (⟨57, .commit 3 8120 #v[some 1, some 2, some 3, some 4] 2⟩ : LogRecord).bodyBytes =
      [0, 0, 0, 0x39, 2, 3, 0, 0x4F, 0, 0, 0, 0, 0x1F, 0xB8, 0, 0, 0, 0, 0, 1, 0, 0, 0, 2, 0, 0, 0, 3, 0, 0, 0, 4] ∧
    (⟨57, .commit 3 8120 #v[some 1, some 2, some 3, some 4] 2⟩ : LogRecord).word 0 = 0x39 := by decide

/-- R172, R190: PART ID and the LOT STATE of an open lot. -/
theorem test_lot_words : partId = 0x3A90B801 ∧ (lot .opened).lotStateWord = 0x00010002 := by decide

/-- R191: an arriving WRITE and an arriving response, byte by byte. -/
theorem test_arriving_frames :
    requestKind [1, 0x02, 0x13, 0xA5, 0xA6, 0xA7, 0xA8] = .write ∧
    requestAddress [1, 0x02, 0x13, 0xA5, 0xA6, 0xA7, 0xA8] = 0x0213 ∧
    requestData [1, 0x02, 0x13, 0xA5, 0xA6, 0xA7, 0xA8] = 0xA5A6A7A8 ∧
    responseStatus [0, 1, 2, 3, 4] = .ok ∧ responseData [0, 1, 2, 3, 4] = 0x01020304 ∧
    responseStatus [1] = .nak ∧ responseStatus [0x80] = .nak := ⟨rfl, rfl, rfl, rfl, rfl, rfl, rfl⟩

/-- R191: the command of a WRITE holds the bytes of its frame. -/
theorem test_request_bytes :
    requestOf 0 1 0x0213 0xA5A6A7A8 = .dalRequest 0 1 #v[0x02, 0x13] [0xA5, 0xA6, 0xA7, 0xA8] ∧
    requestFrame 1 #v[0x02, 0x13] [0xA5, 0xA6, 0xA7, 0xA8] = [1, 0x02, 0x13, 0xA5, 0xA6, 0xA7, 0xA8] ∧
    requestOf 0 0 0x0213 0xA5A6A7A8 = .dalRequest 0 0 #v[0x02, 0x13] [] := by decide

/-- R192: the answer bytes mean what the command on the port makes of them. -/
theorem test_answer_bytes :
    ReelAnswer.ofBytes .image [0x01] = some .absent ∧ ReelAnswer.ofBytes .fetch [0x02] = some .endOfReel ∧
    ReelAnswer.ofBytes .append [0x00] = some .appendOk ∧ ReelAnswer.ofBytes .append [0x03] = some .appendFail ∧
    ReelAnswer.ofBytes .append [0x04] = some .appendFull ∧ ReelAnswer.ofBytes .image [0x02] = none ∧
    ReelAnswer.ofBytes .fetch [0x01] = none ∧ ReelAnswer.ofBytes .append [0x01] = none ∧
    ReelAnswer.ofBytes .free [0x00] = none := by decide

/-- The LOT words of `image`, byte by byte as R193 packs them. -/
def lotBytes : List Byte :=
  [0, 0, 0x4C, 0x21, 0xA5, 0xA5, 0xA5, 0xA5, 0, 0, 0, 3, 0, 0, 0, 1] ++
  [0, 0, 0, 2, 0, 0, 0, 3, 0, 0, 0, 100, 0, 0, 0, 50] ++
  [0, 20, 0, 5, 0, 40, 0, 30, 0, 0, 0x01, 0x20, 0, 0, 0, 0]

/-- The table of `image` the same way. The bits of a NONE entry other than its role are not read. -/
def tableBytes : List Byte :=
  [0x0F, 0xFF, 0xFF, 0xFF, 0x78, 0x04, 0x01, 0x00, 0x78, 0x01, 0x02, 0x40, 0x10, 0x04, 0x02, 0x00] ++
  [0x20, 0x08, 0x02, 0x10, 0, 0, 0, 0, 0x50, 0x02, 0x02, 0x20, 0x60, 0x10, 0x7F, 0x00] ++
  [0x30, 0x01, 0x02, 0x30, 0x40, 0x01, 0x02, 0x40, 0, 0, 0, 0, 0, 0, 0, 0] ++ List.replicate 16 0

/-- The lot image as the reel sends it. -/
def imageBytes : Vector Byte 128 := ⟨(lotBytes ++ tableBytes ++ List.replicate 16 0xEE).toArray, rfl⟩

/-- R26, R193: these bytes are taken, and spell that image. -/
theorem test_image_is_taken : parseImage imageBytes = some image := by decide +kernel

/-- R26, checks 2, 3 and 4: a role of 8, done equal to busy, and a table without its IDENT entry. -/
theorem test_images_refused :
    parseImage (imageBytes.set 48 0x80) = none ∧ parseImage (imageBytes.set 19 1) = none ∧
    parseImage (imageBytes.set 60 0) = none := by decide +kernel

/-- Every check of R26 holds of it. -/
theorem test_image_valid : image.Valid := ⟨by decide, by decide, by decide +kernel⟩

/-- R191: the frames of a WRITE and of a READ answered OK. -/
theorem test_frames :
    (⟨.write, 0x0210, some 0x0102⟩ : Request).bytes = [1, 2, 0x10, 0, 0, 1, 2] ∧
    (⟨.ok, some 0x0102⟩ : Response).bytes = [0, 0, 0, 1, 2] ∧ (⟨.detached, none⟩ : Response).bytes = [6] :=
  ⟨rfl, rfl, rfl⟩

/-! ## One step of each command -/

theorem test_dalRequest_binds :
    let t := after (.dalRequest 0 1 #v[0x02, 0x12] [0, 0, 0, 9]) { ready (lot .opened) with
      pool := { (lot .opened).pool with deque := [key] } }
    t.sites[0].state = .staging ∧ t.lanes[0].state = .outbound ∧ t.log.reservations = 1 ∧
    t.sent = [.downstream 0 ⟨.write, 0x212, some 3⟩] := by decide

theorem test_dieResponse_hides_check :
    (after (.dieResponse 0 0 [0, 0, 0, 0xAA]) (sending (holding (lot .opened) .programmed (binding true true none))
      0 .read .check (some 0) true false)).sent = [.upstream 0 ⟨.ok, some 0⟩] := by decide

/-- R83, R106: an IDENT READ in flight when the reel leaves a CLOSED lot captures nothing in UNLOADED. -/
theorem test_ident_captured_with_an_image_alone :
    let captures := fun l => (after (.dieResponse 0 0 [0, 0, 0, 0xAA])
      (sending (ready (lot l)) 0 .read .ident (some 3) true false)).sites[(0 : Site)].ident
    captures .closed = #v[none, none, none, some 0xAA] ∧ captures .unloaded = #v[none, none, none, none] ∧
    captures .loading = #v[none, none, none, none] := by decide

theorem test_responseTimerExpiry :
    let t := after (.responseTimerExpiry 0) (sending (ready (lot .opened)) 0 .read .none none false false)
    t.lanes[0] = ⟨.quarantine, .running 0 50, none⟩ ∧ t.sent = [.upstream 0 ⟨.timeout, none⟩] := by decide

theorem test_quietTimerExpiry :
    (after (.quietTimerExpiry 0) ((lot .opened).setLane 0 ⟨.quarantine, .running 49 50, none⟩)).lanes[0] = Lane.idle := by
  decide

theorem test_tick_expires_watchdog :
    let t := after .tick (holding (lot .opened) .armed (binding true true none))
    t.sites[0].state = .fault ∧ t.sites[0].lastOutcome = .spoil .stall ∧ t.alert.requested .stall = true := by
  decide +kernel

theorem test_contactRise : (after (.contactRise 0) (lot .opened)).timers[0].debouncer = .settling 0 := by decide

theorem test_contactDebounceComplete :
    (after (.contactDebounceComplete 0) ((lot .opened).setTimers 0 ⟨.settling 4, .stopped, .stopped, .stopped⟩)
      ).sites[0].state = .ready := by decide

theorem test_contactFall_lifts :
    let t := after (.contactFall 0) (holding (lot .opened) .armed (binding true true none))
    t.sites[0].state = .vacant ∧ t.log.records.map LogRecord.body =
      [.spoil (some 0) 8120 .lift Ident.absent true] := by decide

theorem test_keyWaitExpiry_blanks :
    let t := after (.keyWaitExpiry 0) { waiting with
      exc := { waiting.exc with mask := Vector.replicate 7 true } }
    t.sites[0].state = .blanked ∧ t.lanes[0].state = .outbound ∧
    t.sent.head? = some (.downstream 0 ⟨.write, 0x213, some 0⟩) := by decide

theorem test_dwellExpiry_returns :
    let t := after (.dwellExpiry 0) (holding (lot .opened) .staging (binding false false none))
    t.sites[0].state = .ready ∧ t.pool.deque = [key] ∧ t.log.reservations = 0 := by decide

theorem test_programWatchdogExpiry :
    (after (.programWatchdogExpiry 0) (holding (lot .opened) .armed (binding true true none))).sites[0].state = .fault := by
  decide

theorem test_reelPresentRise : (after .reelPresentRise State.reset).supply.debouncer = .settling := by decide

theorem test_reelDebounceEnd :
    let t := after .reelDebounceEnd (after .reelPresentRise State.reset)
    t.lot.state = .loading ∧ t.sent = [.reel .image] := by decide

theorem test_reelPresentFall :
    let t := after .reelPresentFall (lot .opened)
    t.lot.state = .halted ∧ t.lot.haltCause = .reelLost := by decide

theorem test_imageAnswer_absent :
    let t := after (.imageAnswer .absent) (porting (lot .loading) .image none)
    t.lot.state = .unloaded ∧ t.lot.loadError = .absent ∧ t.alert.requested .lot = true := by decide

theorem test_imageAnswer_opens :
    let t := after (.imageAnswer (.image imageBytes true)) (porting (lot .loading) .image none)
    t.lot.state = .opened ∧ t.lot.image = some image ∧ t.supply.port = .fetch ∧ t.log.reservations = 1 := by decide +kernel

theorem test_fetchStart :
    let s := lot .opened
    (after .fetchStart { s with supply := { s.supply with exhausted := false } }).supply.port = .fetch := by decide

theorem test_fetchAnswer_end :
    let s := porting (lot .opened) .fetch none
    (after (.fetchAnswer .endOfReel) { s with supply := { s.supply with exhausted := false } }).supply.exhausted = true := by
  decide

theorem test_unwrapCompletion_accepts :
    let s := lot .opened
    let t := after (.unwrapCompletion (.tagPasses key.key key.check)) { s with
      supply := { s.supply with draw := some .unwrap, fetchReservation := true, unwrap := some ⟨8120, 0, 0, 0⟩ }
      log := { s.log with reservations := 1 } }
    t.pool.deque = [key] ∧ t.pool.highest = some 8120 ∧ t.tallies.fetched = 1 ∧ t.log.reservations = 0 := by decide

theorem test_appendStart_page :
    (after .appendStart (logged (lot .opened) 6)).supply.page = some [1, 2, 3, 4] := by decide

theorem test_appendOk :
    ((after .appendOk (porting (logged (lot .opened) 6) .append (some [1, 2, 3, 4]))).log.records.map LogRecord.seq) =
      [5, 6] := by decide

theorem test_appendFail_third :
    let s := porting (logged (lot .opened) 1) .append (some [1])
    (after .appendFail s).supply.appendFailures = 1 ∧
    (after .appendFail { s with supply := { s.supply with appendFailures := 2 } }).lot.haltCause = .appendFail := by
  decide

theorem test_appendFull :
    (after .appendFull (porting (logged (lot .opened) 1) .append (some [1]))).lot.haltCause = .logSpace := by decide

theorem test_reelSilent :
    (after .reelSilent (porting (logged (lot .opened) 1) .append (some [1]))).lot.haltCause = .reelSilent := by decide

theorem test_discardedReelAnswer :
    exec (.discardedReelAnswer ⟨[7], true, true⟩) (porting (lot .opened) .fetch none) =
      .next (porting (lot .opened) .fetch none) ∧
    (after (.discardedReelAnswer ⟨[2], true, true⟩) (porting (lot .opened) .fetch none)).supply.exhausted = true ∧
    (after (.discardedReelAnswer ⟨[2], false, true⟩) (porting (lot .opened) .fetch none)).supply.port = .fetch :=
  ⟨rfl, by decide, by decide⟩

theorem test_unusedSpoil_back :
    let s := lot .draining
    let t := after .unusedSpoil { s with pool := { s.pool with deque := [key] }, tallies := ⟨1, 0, 0, 0, 0⟩ }
    t.pool.deque = [] ∧ t.lot.closeQueued = true ∧ t.log.records.map LogRecord.body =
      [.spoil none 8120 .unused Ident.absent false, .closed ⟨1, 0, 0, 1, 0⟩] := by decide

theorem test_closeRecord :
    let t := after .closeRecord (lot .draining)
    t.lot.closeQueued = true ∧ t.supply.port = .append := by decide

theorem test_load : (after (.load 0) { lot .closed with pending := [] }).lot.state = .loading := by decide

theorem test_close_refuses_held :
    let t := after (.close 1) waiting
    t.lot.state = .draining ∧ t.lanes[0] = Lane.idle ∧ t.log.reservations = 0 ∧
    t.sent.take 2 = [.upstream 0 ⟨.refused, none⟩, .upstream 1 ⟨.ok, none⟩] := by decide

theorem test_release :
    (after (.release 0 0) (holding (lot .opened) .armed (binding true true none))).sites[0].state = .finished := by decide

theorem test_mask : (after (.mask 0 1 false) (lot .opened)).masked .guard = false := by decide

theorem test_clear_pending :
    let s := (lot .opened).setLane 0 Lane.idle
    let p := { s with exc := { s.exc with mask := Vector.replicate 7 false } }.raiseExc 2 .order
    (after (.clearChecked 0 2) p).sent = [.upstream 0 ⟨.refused, none⟩] ∧
    (after (.clearUnchecked 0 2) p).exc.sticky[2] = Vector.replicate 7 false ∧
    (after (.clearUnchecked 0 2) p).alert.requested .siteException = false := by decide

/-- A STALL requested with site 4, and a LOT. -/
def alerts : State := ((lot .opened).alertEvent .lot none).alertEvent .stall (some 4)

theorem test_alertTake : (after (.alertTake 0) alerts).sent = [.upstream 0 ⟨.ok, some 0x1001⟩] ∧
    (after (.alertTake 0) alerts).alert.inService = [.stall] := by decide

theorem test_alertEnd :
    (after (.alertEndNonSpecific 0) (after (.alertTake 0) alerts)).alert.inService = [] ∧
    (after (.alertEndSpecific 0 7) (after (.alertTake 0) alerts)).alert.inService = [.stall] := by decide

theorem test_alertMask : (after (.alertMask 0 0x82) alerts).alertLine = false := by decide

theorem test_exceptionMask : (after (.exceptionMask 0 0) (lot .opened)).masked .overlap = false := by decide

theorem test_viewSelect :
    (after (.viewSelect 0 9 193) (lot .opened)).pointers[0] = ⟨.log, 193⟩ ∧
    (after (.viewSelect 0 9 194) (lot .opened)).sent = [.upstream 0 ⟨.refused, none⟩] := by decide

theorem test_viewData_wraps :
    let t := after (.viewData 0) { lot .opened with pointers := (lot .opened).pointers.set 0 ⟨.lot, 11⟩ }
    t.pointers[0] = ⟨.lot, 0⟩ ∧ t.sent = [.upstream 0 ⟨.ok, some 0⟩] := by decide

theorem test_tallyLatch :
    let t := after (.tallyLatch 0) { lot .opened with tallies := ⟨5, 0, 0, 0, 0⟩ }
    (after (.tally 0 .fetched) { t with tallies := ⟨6, 0, 0, 0, 0⟩ }).sent.getLast? =
      some (.upstream 0 ⟨.ok, some 5⟩) := by decide

theorem test_claimWordWrite : (after (.claimWordWrite 0 15 0) (lot .opened)).sent = [.upstream 0 ⟨.refused, none⟩] := by
  decide

theorem test_resets :
    (after .powerOn waiting).lot = ⟨.unloaded, none, .none, .none, .power, false⟩ ∧
    (after .resetLine waiting).lot.resetCause = .line ∧ (after .resetLine waiting).timers[0].debouncer = .settling 0 := by
  decide

/-! ## Every statement's hypotheses are met: one theorem for each statement that has any -/

theorem witness_StepRunsFrontCommand :
    { State.reset with pending := [Instr.tick, .powerOn] }.pending = .tick :: [.powerOn] ∧ State.reset.pending = [] := by
  decide

theorem witness_ResetsGiveEveryDefault :
    (Instr.powerOn = .powerOn ∧ ResetCause.power = .power) ∧ (Instr.resetLine = .resetLine ∧ ResetCause.line = .line) := by
  decide

theorem witness_InvariantsHoldAfterReset :
    exec .powerOn waiting = .next (after .powerOn waiting) ∧ exec .resetLine waiting = .next (after .resetLine waiting) :=
  ⟨rfl, rfl⟩

/-- The open lot under EVEN addresses. -/
def even : State := { lot .opened with
  lot := { (lot .opened).lot with image := some { image with checkMode := .even } } }

theorem witness_AddressCheck :
    State.reset.lot.state = .unloaded ∧ (lot .loading).lot.state = .loading ∧
    (∀ l ∈ [LotState.opened, .draining, .closed, .halted], (lot l).lot.state = l ∧ (lot l).lot.image = some image) ∧
    even.lanes[(7 : Site)].state = .idle ∧ even.checkMode.passes 0x8000 = false ∧ even.checkMode.passes 0xFFFF = true := by
  decide

theorem witness_NonIdleLanesAndDetachedSites_busy :
    requestLane (requestOf 0 0 0xFFF0 0) = some 0 ∧ requestLane (.tally 0 .blanked) = some 0 ∧
    waiting.lanes[(0 : Site)].state ≠ .idle ∧
    (sending State.reset 0 .read .none none false false).lanes[(0 : Site)].state ≠ .idle ∧
    (State.reset.setLane 0 ⟨.quarantine, .running 0 100, none⟩).lanes[(0 : Site)].state ≠ .idle := by decide

theorem witness_NonIdleLanesAndDetachedSites_detached :
    State.reset.PassesWindow 0 0xFFEF ∧ (lot .halted).PassesWindow 7 0x7F10 ∧
    State.reset.timers[(0 : Site)].debouncer ≠ .established ∧
    (State.reset.setTimers 0 ⟨.settling 9, .stopped, .stopped, .stopped⟩).timers[(0 : Site)].debouncer ≠ .established := by
  decide

theorem witness_ForwardingAndFrames :
    (lot .loading).lot.state = .loading ∧ (lot .closed).lot.state = .closed ∧ (lot .closed).lot.image = some image ∧
    (0xFE : Byte).getLsbD 0 = false ∧ (0xFF : Byte).getLsbD 0 = true := by decide

theorem witness_RequestsByLotStateAndRole :
    ((ready State.reset).PassesWindow 0 0 ∧ (ready State.reset).timers[(0 : Site)].debouncer = .established ∧
      (ready (lot .loading)).PassesWindow 0 0xFFEF ∧ (ready (lot .loading)).lot.state = .loading) ∧
    ((ready (lot .opened)).ReachesRole 0 .read 0x100 .none none ∧
      (ready (lot .draining)).ReachesRole 0 .read 0x230 .arm (some 0)) ∧
    ((ready (lot .closed)).ReachesRole 0 .read 0x203 .ident (some 3) ∧
      (ready (lot .halted)).ReachesRole 0 .read 0x240 .status (some 0) ∧
      (ready (lot .opened)).ReachesRole 0 .read 0x221 .check (some 1)) ∧
    (ready (lot .opened)).ReachesRole 0 .read 0x217 .stage (some 7) ∧
    ((ready (lot .opened)).ReachesRole 0 .write 0x200 .ident (some 0) ∧
      (ready (lot .opened)).ReachesRole 0 .write 0x220 .check (some 0) ∧
      ((ready (lot .opened)).ReachesRole 0 .write 0x230 .arm (some 0) ∧ (0 : Word) ≠ (lot .opened).image.arm) ∧
      (ready (lot .opened)).ReachesRole 0 .write 0x104 .none none) ∧
    Kind.ofByte 0 = .read ∧ Kind.ofByte 1 = .write := by
  refine ⟨?_, ?_, ?_, ?_, ?_, ?_, ?_⟩ <;> decide

theorem witness_GuardedRequests :
    (ready (lot .opened)).ReachesRole 0 (Kind.ofByte 1) 0x100 .guard (some 0) ∧
    (ready (lot .halted)).ReachesRole 0 (Kind.ofByte 1) 0x103 .guard (some 3) ∧
    (ready (lot .closed)).ReachesRole 0 (Kind.ofByte 1) 0x240 .guard (some 0) := by decide

theorem witness_WindowsInForce :
    (lot .loading).lot.state = .loading ∧ (lot .opened).image.table[(7 : Fin 16)].role = .claim ∧
    (∀ j : Fin 16, j < 7 → (lot .opened).image.table[j].role ≠ .claim) ∧
    (lot .opened).claimWord 0x7F00 = some 0 ∧ (lot .opened).claimWord 0x7F0F = some 15 ∧
    (lot .opened).claimWord 0x7F10 = none ∧ State.reset.claimWord 0xFFFF = some 15 ∧
    (lot .opened).window .read 0x240 = (.status, some 0) ∧ (lot .opened).window .write 0x240 = (.guard, some 0) ∧
    (lot .opened).window .read 0xFFFF = (.none, none) := by decide

theorem witness_ClaimRequestsAreTheirRows :
    (lot .opened).lanes[(0 : Site)].state = .idle ∧ (lot .opened).checkMode.passes 0x7F02 = true ∧
    (lot .opened).claimWord ((lot .opened).checkMode.dieAddress 0x7F02) = some 2 ∧
    rowOfClaimRequest 0 .write 2 0x05000106 = some (.mask 0 6 true) ∧
    rowOfClaimRequest 0 .write 2 0x07000007 = some (.clearUnchecked 0 7) ∧
    rowOfClaimRequest 0 .write 15 0 = some (.claimWordWrite 0 15 0) ∧
    rowOfClaimRequest 0 .write 7 0x9C1 = some (.viewSelect 0 9 0xC1) ∧
    rowOfClaimRequest 0 .read 15 0 = none ∧ rowOfClaimRequest 0 .read 0 0 = none ∧ State.reset.PointersOk ∧
    Instr.isBareClaimWrite 2 0x00000000 = true ∧ Instr.isBareClaimWrite 2 0x08000000 = true ∧
    Instr.isBareClaimWrite 0 0 = true := by decide

theorem witness_StatusAndSiteWords :
    (holding (lot .opened) .staging (binding true true none)).AttemptsOk ∧
    (holding (lot .opened) .staging (binding true true none)).sites[(0 : Site)].binding =
      some (binding true true none) ∧ (lot .opened).sites[(0 : Site)].binding = none := by decide

/-- The open lot with every ident word required. -/
def identLot : State := { lot .opened with
  lot := { (lot .opened).lot with image := some { image with identRequired := true } } }

theorem witness_StageWritesWithoutABind :
    ((ready identLot).ReachesRole 0 .write 0x210 .stage (some 0) ∧ (ready identLot).sites[(0 : Site)].state = .ready ∧
      (ready identLot).image.identRequired = true ∧
      (ready identLot).sites[(0 : Site)].ident.toList.all Option.isSome = false) ∧
    ((ready (lot .halted)).ReachesRole 0 .write 0x217 .stage (some 7) ∧ (ready (lot .halted)).lot.state ≠ .opened ∧
      (ready (lot .halted)).image.identRequired = false) ∧
    ((ready (logged (lot .opened) 16)).ReachesRole 0 .write 0x210 .stage (some 0) ∧
      16 ≤ (logged (lot .opened) 16).log.records.length + (logged (lot .opened) 16).log.reservations) ∧
    (holding (lot .draining) .staging (binding true true none)).ReachesRole 0 .write 0x217 .stage (some 7) ∧
    (∀ st ∈ [SiteState.blanked, .programmed, .finished, .fault, .armed],
      (contact (lot .opened) 0 { SiteContext.default with state := st }).ReachesRole 0 .write 0x210 .stage (some 0)) := by
  decide

/-- The ready site and a pool of one key. -/
def pooled : State := { ready (lot .opened) with pool := { (lot .opened).pool with deque := [key] } }

theorem witness_BindTakesTheFrontKey :
    pooled.ClaimsKey 0 0x217 7 ∧ pooled.pool.deque = key :: [] ∧ Kind.ofByte 1 = .write := by decide

/-- The open lot with a key-wait limit of 0. -/
def noWait : State := { lot .opened with
  lot := { (lot .opened).lot with image := some { image with keyWaitLimit := 0 } } }

theorem witness_BindOnAnEmptyDeque :
    ((ready (lot .opened)).ClaimsKey 0 0x210 0 ∧ (ready (lot .opened)).pool.deque = [] ∧
      (ready (lot .opened)).image.keyWaitLimit ≠ 0) ∧
    ((ready noWait).ClaimsKey 0 0x217 7 ∧ (ready noWait).pool.deque = [] ∧ (ready noWait).image.keyWaitLimit = 0) := by
  decide

theorem witness_ArmWritesAreChecked :
    (holding (lot .draining) .staging (binding true true none)).ReachesRole 0 .write 0x230 .arm (some 0) ∧
    (binding true true none).stageSet = Vector.replicate 8 true ∧
    (holding (lot .opened) .staging (binding false true none)).ReachesRole 0 .write 0x230 .arm (some 0) ∧
    (binding false true none).stageSet ≠ Vector.replicate 8 true := by decide

theorem witness_DieResponseEndsTheTransaction :
    (sending State.reset 0 .read .check (some 1) true false).lanes[(0 : Site)].state = .outbound ∧
    (sending State.reset 0 .read .check (some 1) true false).lanes[(0 : Site)].transaction =
      some ⟨.read, 0, 0, .check, some 1, true, false⟩ ∧ dataBytes 0x01020304 = [1, 2, 3, 4] ∧
    (([] : List Byte) = [] ∧ (1 : Byte) ≠ 0) := by decide

theorem witness_LateResponsesAreDiscarded :
    (State.reset.setLane 0 ⟨.quarantine, .running 0 100, none⟩).lanes[(0 : Site)].state = .quarantine ∧
    State.reset.lanes[(0 : Site)].state = .idle ∧ waiting.lanes[(0 : Site)].state = .held := by decide

theorem witness_LaneTimerExpiries :
    (sending State.reset 0 .write .arm (some 0) true true).lanes[(0 : Site)] =
      ⟨.outbound, .running 49 50, some ⟨.write, 0, 0, .arm, some 0, true, true⟩⟩ ∧
    (State.reset.setLane 0 ⟨.quarantine, .running 49 50, none⟩).lanes[(0 : Site)] = ⟨.quarantine, .running 49 50, none⟩ ∧
    (50 : Nat) ≤ 49 + 1 := by decide

/-- A transaction of a role. -/
def record (k : Kind) (r : Role) (o : Option Nat) (arm : Bool) : Transaction := ⟨k, 0, 0, r, o, true, arm⟩

theorem witness_IdentAndStageOutcomes :
    (lot .unloaded).lot.state = .unloaded ∧ (lot .loading).lot.state = .loading ∧
    (lot .opened).lot.state ≠ .unloaded ∧ (lot .opened).lot.state ≠ .loading ∧
    (record .read .ident (some 3) false).offset = some (3 : Fin 4).val ∧
    (ready (lot .opened)).sites[(0 : Site)].state = .ready ∧
    (record .write .stage (some 7) false).offset = some (7 : Fin 8).val ∧
    (binding false false (some 7)).inFlight = some 7 ∧ (binding false false none).inFlight ≠ some 7 ∧
    (ready (lot .opened)).sites[(0 : Site)].binding = none := by decide

/-- The ARMED site. -/
def armed : State := holding (lot .opened) .armed (binding true true none)

theorem witness_ArmOutcomes :
    armed.lot.state ≠ .unloaded ∧ armed.lot.state ≠ .loading ∧ (record .write .arm (some 0) true).role = .arm ∧
    (record .write .arm (some 0) true).arm = true ∧ armed.sites[(0 : Site)].state = .armed ∧
    (ready (lot .opened)).sites[(0 : Site)].state ≠ .armed := by decide

theorem witness_StatusOutcomes :
    armed.lot.state ≠ .unloaded ∧ armed.lot.state ≠ .loading ∧
    armed.sites[(0 : Site)].state = .armed ∧ armed.image.done ≠ armed.image.fail ∧
    (6 : Word) &&& armed.image.statusMask = armed.image.done ∧ (7 : Word) &&& armed.image.statusMask = armed.image.fail ∧
    armed.sites[(0 : Site)].attempts < armed.image.retryLimit ∧
    armed.image.retryLimit ≤ (armed.setSite 0 { armed.sites[(0 : Site)] with attempts := 2 }).sites[(0 : Site)].attempts ∧
    (0 : Word) &&& armed.image.statusMask ≠ armed.image.done ∧
    (0 : Word) &&& armed.image.statusMask ≠ armed.image.fail := by decide

/-- The PROGRAMMED site with one check word captured. -/
def captured : State :=
  let s := holding (lot .opened) .programmed (binding true true none)
  s.setSite 0 { s.sites[(0 : Site)] with capture := #v[some 0xAA, none] }

theorem witness_CheckOutcomes :
    captured.lot.state ≠ .unloaded ∧ captured.lot.state ≠ .loading ∧
    captured.sites[(0 : Site)].state = .programmed ∧ captured.sites[(0 : Site)].binding = some (binding true true none) ∧
    captured.sites[(0 : Site)].capture[(0 : Fin 2)] = some 0xAA ∧ captured.sites[(0 : Site)].capture[(1 : Fin 2)] = none ∧
    (0xBB : Word) = (binding true true none).check[(1 : Fin 2)] ∧
    (0xAA : Word) = (binding true true none).check[(0 : Fin 2)] ∧ (1 : Fin 2) ≠ 0 ∧
    (0xBC : Word) ≠ (binding true true none).check[(1 : Fin 2)] := by decide

theorem witness_SpoilsAndReturns :
    armed.sites[(0 : Site)].binding = some (binding true true none) ∧ SpoilReason.lift ≠ .unused ∧
    Tally.rejected ≠ .blanked := by decide

theorem witness_DeliveringAKey :
    (lot .opened).RingOk ∧ (∀ n : Site, (lot .opened).pool.waiting[n] = false) ∧
    waiting.RingOk ∧ waiting.pool.ring = [] ++ 0 :: [1, 2, 3, 4, 5, 6, 7] ∧ waiting.pool.waiting[(0 : Site)] = true ∧
    waiting.lanes[(0 : Site)].transaction = some ⟨.write, 0x213, 0x213, .stage, some 3, true, false⟩ := by decide

/-- The next tick brings one element of one site to its limit, and no other. -/
def reachesOnly (s : State) (n : Site) (e : TickElement) : Prop :=
  s.reachesLimit n e = true ∧ ∀ m k, m ≠ n ∨ k ≠ e → s.reachesLimit m k = false

/-- A lane in QUARANTINE one tick before its limit, and one OUTBOUND. -/
def quiet : State := (ready (lot .opened)).setLane 7 ⟨.quarantine, .running 49 50, none⟩
def responding : State := sending (ready (lot .opened)) 0 .read .none none false false

/-- Site 7 one tick before its debounce ends. -/
def settling : State := (lot .opened).setTimers 7 ⟨.settling 4, .stopped, .stopped, .stopped⟩

/-- A STAGING site one tick before its dwell limit. -/
def dwelling : State := holding (lot .opened) .staging (binding false false none)

theorem witness_TickCountsAndExpiries_none : ∀ n e, (lot .opened).reachesLimit n e = false := by
  intro n e; cases e <;> revert n <;> decide

theorem witness_TickCountsAndExpiries :
    reachesOnly settling 7 .debounce ∧ reachesOnly waiting 0 .keyWait ∧ reachesOnly dwelling 0 .dwell ∧
    reachesOnly armed 0 .watchdog ∧ reachesOnly quiet 7 .lane ∧ reachesOnly responding 0 .lane := by
  refine ⟨?_, ?_, ?_, ?_, ?_, ?_⟩ <;> exact ⟨by decide, by intro m k; cases k <;> revert m <;> decide⟩

theorem witness_TickCountsAndExpiries_coherent :
    settling.Coherent ∧ waiting.Coherent ∧ dwelling.Coherent ∧ armed.Coherent ∧ quiet.Coherent ∧ responding.Coherent := by
  refine ⟨?_, ?_, ?_, ?_, ?_, ?_⟩ <;> constructor <;> decide

theorem witness_TickCountsAndExpiries_image :
    settling.ImageOk ∧ waiting.ImageOk ∧ dwelling.ImageOk ∧ armed.ImageOk ∧ quiet.ImageOk ∧ responding.ImageOk := by
  refine ⟨?_, ?_, ?_, ?_, ?_, ?_⟩ <;>
    exact ⟨fun im h => by cases (Option.some.inj h : image = im); exact test_image_valid, by decide⟩

theorem witness_ContactLineAndDebounce :
    State.reset.timers[(0 : Site)].debouncer = .low ∧
    (State.reset.setTimers 0 ⟨.settling 9, .stopped, .stopped, .stopped⟩).timers[(0 : Site)].debouncer = .settling 9 ∧
    State.reset.debounce ≤ 9 + 1 ∧ (lot .opened).lot.image = some image := by decide

theorem witness_ContactLoss :
    armed.timers[(0 : Site)].debouncer = .established ∧ armed.lanes[(0 : Site)].Ok ∧ armed.sites[(0 : Site)].state = .armed ∧
    (ready (lot .opened)).sites[(0 : Site)].state = .ready ∧ (ready (lot .opened)).pool.waiting[(0 : Site)] = false ∧
    waiting.lanes[(0 : Site)].Ok ∧ waiting.sites[(0 : Site)].state = .ready ∧ waiting.pool.waiting[(0 : Site)] = true ∧
    (holding (lot .opened) .staging (binding false false none)).sites[(0 : Site)].binding =
      some (binding false false none) ∧ (binding false false (some 0)).inFlight ≠ none := by decide

theorem witness_SiteTimerExpiries :
    waiting.timers[(0 : Site)].keyWait = .running 19 20 ∧ waiting.pool.waiting[(0 : Site)] = true ∧
    waiting.lanes[(0 : Site)].transaction = some ⟨.write, 0x213, 0x213, .stage, some 3, true, false⟩ ∧
    (holding (lot .opened) .staging (binding false false none)).timers[(0 : Site)].dwell = .running 39 40 ∧
    (holding (lot .opened) .staging (binding false false none)).sites[(0 : Site)].binding =
      some (binding false false none) ∧
    armed.timers[(0 : Site)].watchdog = .running 29 30 := by decide

theorem witness_ReelArrivalAndRemoval :
    State.reset.supply.debouncer = .absent ∧ (after .reelPresentRise State.reset).supply.debouncer = .settling ∧
    (after .reelPresentRise State.reset).lot.state = .unloaded ∧
    (∀ l ∈ [LotState.unloaded, .loading, .opened, .draining, .closed, .halted],
      (lot l).supply.debouncer = .present ∧ (lot l).lot.state = l) := by decide

theorem witness_ImageAnswers :
    (porting (lot .loading) .image none).supply.port = .image ∧ parseImage imageBytes = some image ∧
    parseImage (Vector.replicate 128 0) = none := by decide +kernel

/-- Both sides of the equivalence hold of one image, and neither of the image with a role of 8 in its first entry. -/
theorem witness_ImagesAreAcceptedExactlyWhenValid :
    (parseImage imageBytes = some image ∧ image.lotId = imageWordAt imageBytes 0 ∧
      image.table[(1 : Fin 16)].base.toNat = ((imageWordAt imageBytes 13).extractLsb 15 0).toNat) ∧
    ((imageWordAt (imageBytes.set 48 0x80) 12).extractLsb 31 28).toNat = 8 ∧
    parseImage (imageBytes.set 48 0x80) ≠ some image := by decide +kernel

theorem witness_ArbiterGrantsAndStarts :
    (lot .opened).supply.port = .free ∧ (logged (lot .opened) 4).appendWanted = true ∧
    (lot .opened).fetchWanted = false ∧
    { lot .opened with supply := { (lot .opened).supply with exhausted := false } }.fetchWanted = true ∧
    (lot .opened).appendWanted = false ∧ (porting (lot .opened) .fetch none).supply.port ≠ .free := by decide

theorem witness_FetchAnswers :
    (porting (lot .opened) .fetch none).supply.port = .fetch ∧
    { lot .opened with supply := { (lot .opened).supply with draw := some .transfer } }.supply.draw ≠ none ∧
    (lot .opened).supply.port ≠ .fetch := by decide

/-- A draw in UNWRAP of serial 8120, and a highest accepted serial of 8120. -/
def unwrapping : State :=
  { lot .opened with
    supply := { (lot .opened).supply with draw := some .unwrap, fetchReservation := true, unwrap := some ⟨8120, 0, 0, 0⟩ }
    pool := { (lot .opened).pool with highest := some 8120 }
    log := ⟨[], 1, 2⟩ }

theorem witness_UnwrapCompletion :
    unwrapping.supply.unwrap = some ⟨8120, 0, 0, 0⟩ ∧ unwrapping.supply.draw ≠ none ∧ unwrapping.pool.highest = some 8120 ∧
    (8120 : Serial).toNat ≤ (8120 : Serial).toNat ∧
    { unwrapping with pool := { unwrapping.pool with highest := some 8119 } }.pool.highest = some 8119 ∧
    (8119 : Serial).toNat < (8120 : Serial).toNat := by decide

theorem witness_AppendAnswers :
    (porting (logged (lot .opened) 1) .append (some [1])).supply.port = .append ∧
    (porting (logged (lot .opened) 1) .append (some [1])).supply.page = some [1] ∧
    (LogRecord.isClose ⟨1, .closed Tallies.zero⟩ = true) ∧ (lot .draining).lot.state = .draining ∧
    (lot .opened).supply.port ≠ .image ∧ (lot .opened).supply.port ≠ .append ∧
    (lot .opened).supply.appendFailures < 2 := by decide

theorem witness_ReelAnswersByTheirBytes :
    (porting (lot .loading) .image none).supply.port = .image ∧ (porting (lot .opened) .fetch none).supply.port = .fetch ∧
    (porting (logged (lot .opened) 1) .append (some [1])).supply.port = .append ∧ (lot .opened).supply.port = .free ∧
    ((0x02 : Byte) ≠ 0x00 ∧ (0x02 : Byte) ≠ 0x01) ∧ ((0x01 : Byte) ≠ 0x00 ∧ (0x01 : Byte) ≠ 0x02) ∧
    ((0x05 : Byte) ≠ 0x00 ∧ (0x05 : Byte) ≠ 0x03 ∧ (0x05 : Byte) ≠ 0x04) := by decide

theorem witness_FullAndSilentReel :
    (porting (logged (lot .draining) 1) .append (some [1])).supply.port = .append ∧
    (lot .draining).lot.state = .draining ∧ (porting (lot .opened) .fetch none).supply.port = .fetch := by decide

theorem witness_LeavingOpenAndHalting :
    (lot .opened).SupplyOk ∧ (lot .draining).SupplyOk ∧ unwrapping.SupplyOk ∧ (lot .closed).lot.state ≠ .opened ∧
    (lot .closed).lot.state ≠ .draining := by decide

theorem witness_UnusedSpoilAndCloseRecord :
    (logged (lot .draining) 15).lot.state = .draining ∧
    (logged (lot .draining) 15).log.records.length + (logged (lot .draining) 15).log.reservations < 16 ∧
    pooled.pool.deque = [] ++ [key] ∧ (lot .draining).pool.deque = [] ∧ (lot .draining).supply.draw = none ∧
    (∀ n : Site, (lot .draining).sites[n].binding = none) ∧ (lot .draining).lot.closeQueued = false := by decide

theorem witness_DrainingSpoilsFromTheBack :
    (lot .draining).lot.state = .draining ∧
    (lot .draining).tallies.spoiled + (lot .draining).pool.deque.length ≤ 0xFFFFFFFF ∧
    (lot .opened).lot.state ≠ .draining := by decide

theorem witness_LoadAndCloseCommands :
    State.reset.lanes[(0 : Site)].state = .idle ∧ State.reset.lot.state = .unloaded ∧
    State.reset.supply.debouncer ≠ .present ∧ (lot .unloaded).supply.debouncer = .present ∧
    (lot .closed).supply.debouncer = .present ∧ (lot .opened).lot.state = .opened := by decide

theorem witness_ReleaseAndLowestCommands :
    (7 : Byte).toNat = (7 : Site).val ∧ 8 ≤ (8 : Byte).toNat ∧ (lot .halted).lot.state ≠ .unloaded ∧
    (lot .halted).lot.state ≠ .loading ∧ waiting.pool.waiting[(0 : Site)] = true ∧ waiting.lanes[(1 : Site)].state = .idle ∧
    (∀ st ∈ [SiteState.vacant, .ready, .blanked, .finished, .fault],
      (contact (lot .opened) 0 { SiteContext.default with state := st }).sites[(0 : Site)].state = st) ∧
    (holding (lot .opened) .staging (binding false false none)).sites[(0 : Site)].binding =
      some (binding false false none) := by decide

theorem witness_ExceptionsAndTheirMasks :
    (6 : Byte).toNat = (6 : Fin 7).val ∧ 7 ≤ (7 : Byte).toNat ∧ (lot .closed).lanes[(0 : Site)].state = .idle ∧
    (lot .closed).lot.state ≠ .unloaded ∧ (lot .closed).lot.state ≠ .loading := by decide

theorem witness_ClearCommands :
    ({ lot .opened with exc := { (lot .opened).exc with mask := Vector.replicate 7 false } }.raiseExc 7 .order
      ).alert.siteSets.siteException[(7 : Site)] = true ∧
    (lot .opened).alert.siteSets.siteException[(7 : Site)] = false ∧ (7 : Byte).toNat = (7 : Site).val ∧
    8 ≤ (8 : Byte).toNat := by decide

theorem witness_AlertTake :
    (∀ src ∈ Source.all, (lot .opened).alert.eligible src = false) ∧ alerts.alert.eligible .stall = true ∧
    (∀ other ∈ Source.all, alerts.alert.eligible other = true → Source.stall.priority ≤ other.priority) := by decide

theorem witness_AlertEnd :
    (lot .opened).alert.inService = [] ∧ (after (.alertTake 0) alerts).alert.inService = [] ++ [.stall] ∧
    Source.lot.priority.val = (7 : BitVec 3).toNat ∧ Source.stall ∈ (after (.alertTake 0) alerts).alert.inService ∧
    Source.lot ∉ (after (.alertTake 0) alerts).alert.inService := by decide

theorem witness_ViewSelectViewDataAndPages :
    ViewPage.log.code = (9 : BitVec 4).toNat ∧ (193 : Byte).toNat < ViewPage.log.length ∧
    ViewPage.log.length ≤ (194 : Byte).toNat ∧ (ViewPage.site 7).code = (7 : BitVec 4).toNat ∧
    ViewPage.lot.code = (11 : BitVec 4).toNat ∧ 12 ≤ (12 : BitVec 4).toNat := by decide

theorem witness_LogRecordsAre48Bytes :
    (logged (lot .opened) 16).log.records[15]? = some ⟨16, .reject 7 .tag⟩ ∧ (lot .opened).log.records[0]? = none ∧
    (4 : Nat) < 8 ∧ ∀ which ∈ [Tally.fetched, .rejected, .committed, .spoiled, .blanked],
      (Tallies.mk 0xFFFFFFFF 0 0 0 0xFFFFFFFF).get which ≤ 0xFFFFFFFF := by decide

/-- An open lot with a pool of two keys, and the part after reset, for the pages. -/
def shown : State :=
  { lot .opened with
    pool := { (lot .opened).pool with deque := [key, { key with serial := 8121 }], highest := some 8121 }
    tallies := ⟨2, 0, 0, 0, 0⟩ }

theorem witness_ViewSelectViewDataAndPages_coherent : shown.Coherent ∧ waiting.Coherent ∧ State.reset.Coherent := by
  refine ⟨?_, ?_, ?_⟩ <;> constructor <;> decide

theorem witness_ViewSelectViewDataAndPages_pages :
    shown.ImageOk ∧ shown.pool.deque = key :: [{ key with serial := 8121 }] ∧
    shown.pool.deque = [key] ++ [{ key with serial := 8121 }] ∧ shown.pool.highest = some 8121 ∧
    shown.lot.image = some image ∧ shown.pool.ring[(7 : Fin 8).val]? = some 7 ∧
    State.reset.ImageOk ∧ State.reset.pool.deque = [] ∧ State.reset.pool.highest = none ∧ State.reset.lot.image = none :=
  ⟨⟨fun im h => by cases (Option.some.inj h : image = im); exact test_image_valid, by decide⟩, by decide, by decide,
    by decide, by decide, by decide, ⟨fun _ h => (nomatch h), by decide⟩, by decide, by decide, by decide⟩

/-- A lane's snapshot of which only BLANKED is pending. -/
def lastPending : TallyLatch := ⟨⟨1, false⟩, ⟨2, false⟩, ⟨3, false⟩, ⟨4, false⟩, ⟨5, true⟩⟩

theorem witness_TallyLatchAndTallyWords :
    (lot .opened).latches[(0 : Site)] = none ∧ (lastPending.get .fetched).pending = false ∧
    (lastPending.get .blanked).pending = true ∧
    { lot .opened with latches := (lot .opened).latches.set (0 : Site) (some lastPending) }.latches[(0 : Site)] =
      some lastPending := by decide

/-- The part after reset with a tick in front of its queue. -/
def ticking : State := { State.reset with pending := [.tick] }

/-- The premises of the statements about every step meet there. -/
theorem witness_step_coherent : ticking.Coherent := by
  constructor <;> decide

theorem witness_step_serials : ticking.SerialsOk := by
  have h : ticking.heldSerials = [] := by decide
  exact ⟨by rw [h]; exact List.nodup_nil, by rw [h]; simp⟩

theorem witness_step_invariants :
    ticking.AttemptsOk ∧ ticking.InServiceOk ∧ ticking.PointersOk ∧
    seqsBelow ticking.log.records ticking.log.nextSeq ∧ ticking.Settled ∧ ticking.LatchesFollow :=
  ⟨by decide, by decide, by decide, trivial, by decide, by decide⟩

/-- The held image of the statement about every step. -/
theorem witness_step_image : ticking.ImageOk := ⟨fun _ h => (nomatch h), by decide⟩

/-- The same at an ARMED site of an open lot. -/
theorem witness_step_coherent_armed : armed.Coherent := by
  constructor <;> decide

theorem witness_step_invariants_armed : armed.AttemptsOk ∧ armed.reportConditions.LatchesFollow := by
  constructor <;> decide

/-- Two states that differ in a key and in what has left the part. -/
def pooledOther : State :=
  { pooled with
    pool := { pooled.pool with deque := [{ key with key := Vector.replicate 8 9 }] }, sent := [.reel .fetch] }

theorem witness_ClaimWindowHidesKeys :
    { pooled with sent := [.reel .image] }.withoutKeys = pooledOther.withoutKeys ∧
    pooled.pool.deque ≠ pooledOther.pool.deque ∧ pooledOther.sent ≠ [] ∧
    pooled.claimWord (pooled.checkMode.dieAddress 0x7F08) ≠ none ∧ Kind.ofByte 0 = .read := by decide

end Sys2Proof.Machine.Test
end

section
/-! The lot image, the window table and the lot states: the statements about loads, lot open, the REEL-PRESENT and
CONTACT lines, DRAINING and the end of an event, each put together from lemmas that say once what a row or an operation
is. -/

namespace Sys2Proof.Machine.LotStates

/-! ## The CONTACT line (R104, R114, R115) -/

/-- Contact establishment whole: the debouncer ESTABLISHED, the site context fresh and READY. -/
theorem establish_eq (s : State) (n : Site) :
    s.establish n =
      { s with
        timers := s.timers.set n { s.timers[n] with debouncer := .established }
        sites := s.sites.set n ⟨.ready, Vector.replicate 4 none, none, 0, Vector.replicate 2 none, false, .none⟩ } :=
  rfl

theorem exec_contactRise_low {s : State} {n : Site} (h : s.timers[n].debouncer = .low) :
    exec (.contactRise n) s = .next (s.setTimers n { s.timers[n] with debouncer := .settling 0 }) := by
  simp only [exec, execContactRise, if_pos h]

theorem exec_contactFall_settling {s : State} {n : Site} {c : Nat} (h : s.timers[n].debouncer = .settling c) :
    exec (.contactFall n) s = .next (s.setTimers n { s.timers[n] with debouncer := .low }) := by
  simp only [exec, execContactFall, h]

theorem exec_contactDebounceComplete_last {s : State} {n : Site} {c : Nat}
    (h : s.timers[n].debouncer = .settling c) (hc : s.debounce ≤ c + 1) :
    exec (.contactDebounceComplete n) s = .next (s.establish n) := by
  simp only [exec, execContactDebounceComplete, h, Debouncer.count, Debouncer.reached, decide_eq_true hc, if_true]

/-- The boot debounce, where no image is in force (R24). -/
theorem debounce_boot {s : State} (h : s.lot.state.imageInForce = false) : s.debounce = 10 := by
  simp [State.debounce, h]

/-- The debounce of the image in force (R24). -/
theorem debounce_image {s : State} {im : LotImage} (h : s.lot.state.imageInForce = true)
    (him : s.lot.image = some im) : s.debounce = im.debounce := by
  simp [State.debounce, State.image, h, him]

/-- Settles O28: each row from its equation, the debounce from whether an image is in force. -/
theorem contactLineAndDebounce : Obligations.ContactLineAndDebounce := by
  refine ⟨fun s n => ⟨exec_contactRise_low, fun c hc => ⟨exec_contactFall_settling hc, fun hle => ?_⟩⟩,
    fun s => ⟨fun h => debounce_boot ?_, fun h im him => debounce_image ?_ him⟩⟩
  · rw [exec_contactDebounceComplete_last hc hle, establish_eq]
  · rcases h with h | h <;> rw [h] <;> rfl
  · rcases h with h | h | h | h <;> rw [h] <;> rfl

/-! ## UNUSED spoil and CLOSE record (R37, R38, R151) -/

/-- The log can lend a reservation, and the CLOSE record finds a place, below 16 records and reservations (R142). -/
theorem canLend_iff (s : State) : s.canLend = true ↔ s.log.records.length + s.log.reservations < 16 := by
  simp [State.canLend]

theorem unusedDue_iff (s : State) :
    s.unusedDue = true ↔ s.lot.state = .draining ∧ s.pool.deque ≠ [] ∧ s.canLend = true := by
  simp [State.unusedDue, and_assoc]

theorem drained_iff (s : State) :
    s.drained = true ↔ s.bindings = 0 ∧ s.supply.draw = none ∧ s.pool.deque = [] := by
  simp [State.drained, and_assoc]

theorem closeDue_iff (s : State) :
    s.closeDue = true ↔
      s.lot.state = .draining ∧ s.drained = true ∧ s.lot.closeQueued = false ∧ s.canLend = true := by
  simp [State.closeDue, and_assoc]

/-- The CLOSE record enqueued, whole. -/
theorem queueClose_eq (s : State) :
    s.queueClose =
      { s with
        lot := { s.lot with closeQueued := true }
        log := { s.log with
          records := s.log.records ++ [⟨s.log.nextSeq, .closed s.tallies⟩]
          nextSeq := s.log.nextSeq + 1 } } := rfl

/-- Settles O40: the spoil and the record are due, and are what `spoilUnused` and `queueClose` do. -/
theorem unusedSpoilAndCloseRecord : Obligations.UnusedSpoilAndCloseRecord := by
  intro s hlot hroom
  have hlend : s.canLend = true := (canLend_iff s).2 hroom
  constructor
  · intro kept e hdeque
    have hdue : s.unusedDue = true := (unusedDue_iff s).2 ⟨hlot, by simp [hdeque], hlend⟩
    simp only [exec, execUnusedSpoil, if_pos hdue, spoilUnused_eq hdeque, Ident.absent]
  · intro hdeque hdraw hbind hqueued
    have hdrained : s.drained = true := (drained_iff s).2 ⟨(bindings_eq_zero s).2 hbind, hdraw, hdeque⟩
    have hdue : s.closeDue = true := (closeDue_iff s).2 ⟨hlot, hdrained, hqueued, hlend⟩
    simp only [exec, execCloseRecord, if_pos hdue, queueClose_eq]

/-! ## New parameters in force (R20, R113) -/

theorem timer_restart_eq (limit : Nat) (t : Timer) :
    t.restart limit = if t = .stopped then .stopped else .running 0 limit := by
  cases t <;> simp [Timer.restart]

theorem debouncer_restart_eq (d : Debouncer) :
    d.restart = if d = .low then .low else if d = .established then .established else .settling 0 := by
  cases d <;> simp [Debouncer.restart]

/-- New parameters in force, whole. -/
theorem retime_eq (s : State) :
    s.retime =
      { s with
        lanes := Vector.ofFn fun n : Site =>
          { s.lanes[n] with timer := if s.lanes[n].timer = .stopped then .stopped else .running 0 s.responseLimit }
        timers := Vector.ofFn fun n : Site =>
          ⟨if s.timers[n].debouncer = .low then .low
            else if s.timers[n].debouncer = .established then .established else .settling 0,
            .stopped, .stopped, .stopped⟩ } := by
  simp only [State.retime, timer_restart_eq, debouncer_restart_eq]

/-! ## Loads (R29 to R31) -/

/-- A failed load whole: the load error, UNLOADED, and the LOT event. -/
theorem failLoad_eq (s : State) (e : LoadError) :
    s.failLoad e =
      { s with
        lot := { s.lot with state := .unloaded, loadError := e }
        alert := { s.alert with latch := s.alert.latch.set 7 true } } := rfl

/-- A load that does not start from CLOSED keeps the parameters in force. -/
theorem enterLoading_of_ne_closed {s : State} (h : s.lot.state ≠ .closed) :
    s.enterLoading =
      { s with
        lot := { s.lot with state := .loading, loadError := .none }
        supply := { s.supply with port := .image, timerRunning := true }
        sent := s.sent ++ [.reel .image] } := by
  simp only [State.enterLoading, if_neg h, State.send]

/-- A load from CLOSED puts the boot parameters in force. -/
theorem enterLoading_of_closed {s : State} (h : s.lot.state = .closed) :
    s.enterLoading =
      State.retime
        { s with
          lot := { s.lot with state := .loading, loadError := .none }
          supply := { s.supply with port := .image, timerRunning := true }
          sent := s.sent ++ [.reel .image] } := by
  simp only [State.enterLoading, if_pos h]
  rfl

/-! ## The REEL-PRESENT line (R30, R50, R51) -/

/-- A reel that arrives in UNLOADED starts a load under the boot parameters that are in force already. -/
theorem reelArrival_of_unloaded {s : State} (h : s.lot.state = .unloaded) :
    s.reelArrival =
      { s with
        lot := { s.lot with state := .loading, loadError := .none }
        supply := { s.supply with port := .image, timerRunning := true }
        sent := s.sent ++ [.reel .image] } := by
  rw [← enterLoading_of_ne_closed (by simp [h])]
  simp only [State.reelArrival, h]

theorem reelArrival_of_ne_unloaded {s : State} (h : s.lot.state ≠ .unloaded) : s.reelArrival = s := by
  unfold State.reelArrival
  split
  · next hu => exact absurd hu h
  all_goals rfl

theorem exec_reelPresentRise_absent {s : State} (h : s.supply.debouncer = .absent) :
    exec .reelPresentRise s = .next { s with supply := { s.supply with debouncer := .settling } } := by
  simp only [exec, execReelPresentRise, if_pos h]

theorem exec_reelPresentFall_settling {s : State} (h : s.supply.debouncer = .settling) :
    exec .reelPresentFall s = .next { s with supply := { s.supply with debouncer := .absent } } := by
  simp only [exec, execReelPresentFall, h]

theorem exec_reelPresentFall_present {s : State} (h : s.supply.debouncer = .present) :
    exec .reelPresentFall s =
      .next (State.reelRemoval { s with supply := { s.supply with debouncer := .absent } }) := by
  simp only [exec, execReelPresentFall, h]

theorem exec_reelDebounceEnd_settling {s : State} (h : s.supply.debouncer = .settling) :
    exec .reelDebounceEnd s =
      .next (State.reelArrival { s with supply := { s.supply with debouncer := .present } }) := by
  simp only [exec, execReelDebounceEnd, if_pos h]

theorem reelRemoval_of_active {s : State} (h : s.lot.state = .opened ∨ s.lot.state = .draining) :
    s.reelRemoval = (s.halt .reelLost).finish := by
  rcases h with h | h <;> simp only [State.reelRemoval, h]

theorem reelRemoval_of_idle {s : State} (h : s.lot.state = .unloaded ∨ s.lot.state = .halted) :
    s.reelRemoval = s := by
  rcases h with h | h <;> simp only [State.reelRemoval, h]

theorem reelRemoval_of_loading {s : State} (h : s.lot.state = .loading) :
    s.reelRemoval = s.freePort.failLoad .reel := by
  simp only [State.reelRemoval, h]

theorem reelRemoval_of_closed {s : State} (h : s.lot.state = .closed) :
    s.reelRemoval = State.retime { s with lot := { s.lot with state := .unloaded } } := by
  simp only [State.reelRemoval, h]

/-- Settles O31: the window's rows, then the removal by lot state, then the timers under new parameters. -/
theorem reelArrivalAndRemoval : Obligations.ReelArrivalAndRemoval := by
  refine ⟨fun s => ⟨exec_reelPresentRise_absent, fun hset => ⟨exec_reelPresentFall_settling hset, ?_, ?_⟩⟩,
    fun s hpres => ?_, retime_eq⟩
  · intro hlot
    rw [exec_reelDebounceEnd_settling hset]
    exact congrArg _ (reelArrival_of_unloaded hlot)
  · intro hlot
    rw [exec_reelDebounceEnd_settling hset]
    exact congrArg _ (reelArrival_of_ne_unloaded hlot)
  · rw [exec_reelPresentFall_present hpres]
    exact ⟨fun h => congrArg _ (reelRemoval_of_idle h),
      fun h => congrArg _ (reelRemoval_of_loading h),
      fun h => congrArg _ (reelRemoval_of_closed h),
      fun h => congrArg _ (reelRemoval_of_active h)⟩

/-! ## LOAD and CLOSE (R29, R35) -/

theorem exec_load_idle {s : State} {n : Site} (h : s.lanes[n].state = .idle) :
    exec (.load n) s = .next (s.cmdLoad n) := by
  simp only [exec, execLoad, onIdleLane_idle h]

theorem exec_close_idle {s : State} {n : Site} (h : s.lanes[n].state = .idle) :
    exec (.close n) s = .next (s.cmdClose n) := by
  simp only [exec, execClose, onIdleLane_idle h]

/-- LOAD with a reel present starts a load where the lot state allows one (R29). -/
theorem cmdLoad_present {s : State} (n : Site) (h : s.lot.state = .unloaded ∨ s.lot.state = .closed)
    (hp : s.supply.debouncer = .present) : s.cmdLoad n = s.enterLoading.answer n .ok := by
  rcases h with h | h <;> simp only [State.cmdLoad, h, if_pos hp]

/-- LOAD in UNLOADED without a reel fails at once (R29, R31). -/
theorem cmdLoad_absent {s : State} (n : Site) (h : s.lot.state = .unloaded) (hp : s.supply.debouncer ≠ .present) :
    s.cmdLoad n = (s.failLoad .reel).answer n .ok := by
  simp only [State.cmdLoad, h, if_neg hp]

theorem cmdLoad_refused {s : State} (n : Site)
    (h : s.lot.state = .loading ∨ s.lot.state = .opened ∨ s.lot.state = .draining ∨ s.lot.state = .halted) :
    s.cmdLoad n = s.answer n .refused := by
  rcases h with h | h | h | h <;> simp only [State.cmdLoad, h]

/-- An answer and new parameters in force do not meet: they may be taken in either order. -/
theorem retime_answer (s : State) (n : Site) (st : Status) (d : Option Word) :
    s.retime.answer n st d = (s.answer n st d).retime := rfl

/-- Settles O44: LOAD by lot state and reel, CLOSE by lot state. -/
theorem loadAndCloseCommands : Obligations.LoadAndCloseCommands := by
  refine ⟨fun s n hidle => ?_, fun s n hidle => ?_⟩
  · rw [exec_load_idle hidle]
    refine ⟨fun h hp => ?_, fun h hp => ?_, fun h hp => ?_, fun h => ?_⟩
    · rw [cmdLoad_present n (.inl h) hp, enterLoading_of_ne_closed (by simp [h])]
      simp [State.answer, State.send]
    · rw [cmdLoad_present n (.inr h) hp, enterLoading_of_closed h, retime_answer]
      simp [State.answer, State.send]
    · rw [cmdLoad_absent n h hp, failLoad_eq, ← h]
      rfl
    · rw [cmdLoad_refused n h]
  · rw [exec_close_idle hidle]
    refine ⟨fun h => ?_, fun h => ?_⟩
    · simp only [State.cmdClose, if_pos h, State.leaveOpen_lot]
    · simp only [State.cmdClose, if_neg h]

/-! ## Lot open (R33, R150) -/

/-- The site context at lot open: fresh and READY where contact is established, Default where not. -/
theorem atOpen_eq (d : Debouncer) :
    SiteContext.atOpen d =
      ⟨if d = .established then .ready else .vacant, Vector.replicate 4 none, none, 0, Vector.replicate 2 none, false,
        .none⟩ := by
  cases d <;> rfl

/-- Lot open from the port that carried IMAGE, every block written out. -/
theorem lotOpen_freePort_eq (s : State) (im : LotImage) :
    s.freePort.lotOpen im =
      { s with
        lot := ⟨.opened, some im, .none, .none, s.lot.resetCause, false⟩
        supply := ⟨.free, false, none, false, none, none, 0, false, s.supply.debouncer⟩
        pool := ⟨[], Vector.replicate 8 false, s.pool.ring, none⟩
        sites := Vector.ofFn fun n : Site =>
          ⟨if s.timers[n].debouncer = .established then .ready else .vacant, Vector.replicate 4 none, none, 0,
            Vector.replicate 2 none, false, .none⟩
        timers := Vector.ofFn fun n : Site =>
          ⟨if s.timers[n].debouncer = .low then .low
            else if s.timers[n].debouncer = .established then .established else .settling 0,
            .stopped, .stopped, .stopped⟩
        lanes := Vector.ofFn fun n : Site =>
          { s.lanes[n] with timer := if s.lanes[n].timer = .stopped then .stopped else .running 0 im.responseLimit }
        exc := ⟨Vector.replicate 8 (Vector.replicate 7 false), im.excMask⟩
        log := ⟨[⟨1, .opened im.lotId⟩], 0, 2⟩
        alert := ⟨Vector.replicate 8 false,
          ⟨Vector.replicate 8 false, Vector.replicate 8 false, Vector.replicate 8 false, Vector.replicate 8 false⟩,
          im.alertMask, [], im.autoEnd⟩
        tallies := ⟨0, 0, 0, 0, 0⟩
        latches := Vector.replicate 8 none } := by
  simp only [State.lotOpen, retime_eq, atOpen_eq]
  rfl

/-! ## Answers to IMAGE (R31, R33) -/

theorem exec_imageAnswer_image {s : State} (h : s.supply.port = .image) (bytes : Vector Byte 128) (tagPasses : Bool) :
    exec (.imageAnswer (.image bytes tagPasses)) s = .next (s.imageArrived bytes tagPasses) := by
  simp only [exec, execImageAnswer, if_pos h, State.takeAnswer]

theorem exec_imageAnswer_absent {s : State} (h : s.supply.port = .image) :
    exec (.imageAnswer .absent) s = .next (s.freePort.failLoad .absent) := by
  simp only [exec, execImageAnswer, if_pos h, State.takeAnswer]

theorem exec_reelSilent_image {s : State} (h : s.supply.port = .image) :
    exec .reelSilent s = .next (s.freePort.failLoad .reel) := by
  simp only [exec, execReelSilent, h]

theorem imageArrived_tagFails (s : State) (bytes : Vector Byte 128) :
    s.imageArrived bytes false = s.freePort.failLoad .tag := by
  simp [State.imageArrived]

theorem imageArrived_invalid {bytes : Vector Byte 128} (h : parseImage bytes = none) (s : State) :
    s.imageArrived bytes true = s.freePort.failLoad .format := by
  simp [State.imageArrived, h]

theorem imageArrived_valid {bytes : Vector Byte 128} {im : LotImage} (h : parseImage bytes = some im) (s : State) :
    s.imageArrived bytes true = (s.freePort.lotOpen im).finish := by
  simp [State.imageArrived, h]

/-- A load that fails with IMAGE on the port: the port is FREE besides (R31, R46). -/
theorem failLoad_freePort_eq (s : State) (e : LoadError) :
    s.freePort.failLoad e =
      { s with
        supply := { s.supply with port := .free, timerRunning := false, page := none }
        lot := { s.lot with state := .unloaded, loadError := e }
        alert := { s.alert with latch := s.alert.latch.set 7 true } } := rfl

/-- Settles O32: a valid image opens the lot, and each other answer and silence fail the load with its error. -/
theorem imageAnswers : Obligations.ImageAnswers := by
  refine ⟨fun s bytes im hport him => ?_, fun s hport => ⟨?_, fun bytes => ?_, fun bytes hbytes => ?_, ?_⟩⟩
  · rw [exec_imageAnswer_image hport, imageArrived_valid him, lotOpen_freePort_eq]
  · rw [exec_imageAnswer_absent hport, failLoad_freePort_eq]
  · rw [exec_imageAnswer_image hport, imageArrived_tagFails, failLoad_freePort_eq]
  · rw [exec_imageAnswer_image hport, imageArrived_invalid hbytes, failLoad_freePort_eq]
  · rw [exec_reelSilent_image hport, failLoad_freePort_eq]

/-! ## Answers to APPEND (R39, R60, R61, R152) -/

theorem pageSize_eq {s : State} {p : List Word} (h : s.supply.page = some p) : s.pageSize = p.length := by
  simp [State.pageSize, h]

theorem exec_appendOk_append {s : State} (h : s.supply.port = .append) : exec .appendOk s = .next s.pageStored := by
  simp only [exec, execAppendOk, if_pos h, State.takeAnswer]

theorem exec_appendFail_append {s : State} (h : s.supply.port = .append) : exec .appendFail s = .next s.pageFailed := by
  simp only [exec, execAppendFail, if_pos h, State.takeAnswer]

/-- The page confirmed, whole. -/
theorem confirmPage_eq {s : State} {p : List Word} (h : s.supply.page = some p) :
    s.confirmPage =
      { s with
        supply := { s.supply with port := .free, timerRunning := false, page := none, appendFailures := 0 }
        log := { s.log with records := s.log.records.drop p.length } } := by
  rw [← pageSize_eq h]
  rfl

/-- The lot CLOSED, whole. -/
theorem closeLot_eq (s : State) :
    s.closeLot =
      { s with
        lot := { s.lot with state := .closed }
        alert := { s.alert with latch := s.alert.latch.set 7 true } } := rfl

/-- The page on the port holds the CLOSE record. -/
theorem page_holds_close_iff {s : State} {p : List Word} (h : s.supply.page = some p) :
    (s.log.records.take s.pageSize).any LogRecord.isClose = true ↔
      ∃ r ∈ s.log.records.take p.length, r.isClose = true := by
  rw [List.any_eq_true, pageSize_eq h]

/-- OK to the page that holds the CLOSE record closes a DRAINING lot (R39). -/
theorem pageStored_close {s : State}
    (h : (s.log.records.take s.pageSize).any LogRecord.isClose = true ∧ s.lot.state = .draining) :
    s.pageStored = s.confirmPage.closeLot.finish := by
  rw [State.pageStored, if_pos h]

theorem pageStored_other {s : State}
    (h : ¬((s.log.records.take s.pageSize).any LogRecord.isClose = true ∧ s.lot.state = .draining)) :
    s.pageStored = s.confirmPage.finish := by
  rw [State.pageStored, if_neg h]

/-- Settles O37: OK by what the page holds, FAIL by how many FAILs the page has had. -/
theorem appendAnswers : Obligations.AppendAnswers := by
  refine ⟨fun s p hport hpage => ⟨fun hclose hlot => ?_, fun hother => ?_⟩,
    fun s p hport hpage => ⟨fun hfew => ?_, fun hthird => ?_⟩⟩
  · rw [exec_appendOk_append hport, pageStored_close ⟨(page_holds_close_iff hpage).2 hclose, hlot⟩, closeLot_eq,
      confirmPage_eq hpage]
  · rw [exec_appendOk_append hport, pageStored_other (by rwa [page_holds_close_iff hpage]), confirmPage_eq hpage]
  · rw [exec_appendFail_append hport, State.pageFailed, if_pos hfew, pageSize_eq hpage]
    rfl
  · rw [exec_appendFail_append hport, State.pageFailed, if_neg (by omega)]

/-! ## Load validation (R23, R26, R192, R193) -/

/-- Bits `hi` down to `lo` of word i of an image, as a number (R193). -/
def imageBits (bytes : Vector Byte 128) (i : Fin 32) (hi lo : Nat) : Nat :=
  ((imageWordAt bytes i).extractLsb hi lo).toNat

/-- The lot parameters are what the twelve LOT words spell (R193). -/
def SpellsFields (bytes : Vector Byte 128) (im : LotImage) : Prop :=
  im.lotId = imageWordAt bytes 0 ∧ im.arm = imageWordAt bytes 1 ∧ im.statusMask = imageWordAt bytes 2 ∧
  im.busy = imageWordAt bytes 3 ∧ im.done = imageWordAt bytes 4 ∧ im.fail = imageWordAt bytes 5 ∧
  im.ceiling = imageBits bytes 6 23 0 ∧ im.tickCode = imageBits bytes 7 18 16 ∧
  im.responseLimit = imageBits bytes 7 9 0 ∧ im.keyWaitLimit = imageBits bytes 8 25 16 ∧
  im.debounce = imageBits bytes 8 7 0 ∧ im.dwellLimit = imageBits bytes 9 31 16 ∧
  im.watchdogLimit = imageBits bytes 9 15 0 ∧ im.checkMode.code = imageBits bytes 10 1 0 ∧
  im.retryLimit = imageBits bytes 10 6 4 ∧ im.refillLevel = imageBits bytes 10 12 8 ∧
  im.lowLevel = imageBits bytes 10 20 16 ∧ im.identRequired = (imageWordAt bytes 10).getLsbD 24 ∧
  im.autoEnd = (imageWordAt bytes 10).getLsbD 25 ∧
  (∀ k : Fin 7, im.excMask[k] = (imageWordAt bytes 11).getLsbD k.val) ∧
  (∀ k : Fin 8, im.alertMask[k] = (imageWordAt bytes 11).getLsbD (8 + k.val))

/-- Table entry i is what its word spells: the base and the length of an entry that is not NONE, the access of a GUARD
entry, are read (R25, R193). -/
def SpellsEntry (bytes : Vector Byte 128) (im : LotImage) (i : Fin 16) : Prop :=
  im.table[i].role.code = imageBits bytes ⟨12 + i.val, by omega⟩ 31 28 ∧
  (im.table[i].role ≠ .none →
    im.table[i].base.toNat = imageBits bytes ⟨12 + i.val, by omega⟩ 15 0 ∧
    im.table[i].length = imageBits bytes ⟨12 + i.val, by omega⟩ 24 16) ∧
  (im.table[i].role = .guard →
    im.table[i].access.map Access.code = some (imageBits bytes ⟨12 + i.val, by omega⟩ 27 26))

/-- A field that the model reads in an image is the bits of R193. -/
theorem field_imageWord (bytes : Vector Byte 128) (i : Fin 32) {hi lo : Nat} (h : lo ≤ hi) :
    field (imageWord bytes.toList i.val) hi lo = imageBits bytes i hi lo := by
  rw [imageWord_eq, field_eq_extractLsb _ _ _ h, imageBits]

/-- A set of flags is a word's bits from bit `lo` on, flag by flag. -/
theorem eq_flagsAt_iff {n : Nat} (v : Vector Bool n) (w : Word) (lo : Nat) :
    v = flagsAt w lo n ↔ ∀ k : Fin n, v[k] = w.getLsbD (lo + k.val) := by
  constructor
  · rintro rfl k
    simp [flagsAt]
  · intro h
    refine perSite_ext fun k => ?_
    rw [h k, flagsAt, perSite_ofFn]

/-- The fields that the model reads in an image are those that its words spell. -/
theorem eq_imageFields_iff {bytes : Vector Byte 128} {im : LotImage} :
    (im = imageFields bytes.toList im.checkMode im.table ∧
      im.checkMode.code = field (imageWord bytes.toList 10) 1 0) ↔ SpellsFields bytes im := by
  rcases im with ⟨⟩
  have hword : ∀ i : Fin 32, imageWord bytes.toList i.val = imageWordAt bytes i := imageWord_eq bytes
  have hbits : ∀ (i : Fin 32) (hi lo : Nat), lo ≤ hi →
      field (imageWord bytes.toList i.val) hi lo = imageBits bytes i hi lo := fun i hi lo => field_imageWord bytes i
  simp only [imageFields, LotImage.mk.injEq, eq_flagsAt_iff, SpellsFields, Nat.zero_add, and_true, true_and,
    ← hword, ← hbits _ 23 0 (by omega), ← hbits _ 18 16 (by omega), ← hbits _ 9 0 (by omega),
    ← hbits _ 25 16 (by omega), ← hbits _ 7 0 (by omega), ← hbits _ 31 16 (by omega), ← hbits _ 15 0 (by omega),
    ← hbits _ 1 0 (by omega), ← hbits _ 6 4 (by omega), ← hbits _ 12 8 (by omega), ← hbits _ 20 16 (by omega)]
  constructor
  · rintro ⟨⟨h0, h1, h2, h3, h4, h5, h6, h7, h8, h9, h10, h11, h12, h13, h14, h15, h16, h17, h18, h19⟩, hmode⟩
    exact ⟨h0, h1, h2, h3, h4, h5, h6, h7, h8, h9, h10, h11, h12, hmode, h13, h14, h15, h16, h17, h18, h19⟩
  · rintro ⟨h0, h1, h2, h3, h4, h5, h6, h7, h8, h9, h10, h11, h12, hmode, h13, h14, h15, h16, h17, h18, h19⟩
    exact ⟨⟨h0, h1, h2, h3, h4, h5, h6, h7, h8, h9, h10, h11, h12, h13, h14, h15, h16, h17, h18, h19⟩, hmode⟩

/-- The model's reading of a table entry word, by its bits and the checks on the entry alone. -/
theorem parse_entry_iff (bytes : Vector Byte 128) (im : LotImage) (i : Fin 16) :
    WindowEntry.parse im.checkMode (imageWord bytes.toList (12 + i.val)) = some im.table[i] ↔
      SpellsEntry bytes im i ∧ im.table[i].Ok im.checkMode := by
  have hbits : ∀ hi lo : Nat, lo ≤ hi → field (imageWord bytes.toList (12 + i.val)) hi lo =
      imageBits bytes ⟨12 + i.val, by omega⟩ hi lo := fun hi lo h => field_imageWord bytes ⟨12 + i.val, by omega⟩ h
  rw [WindowEntry.parse_eq_some, hbits 31 28 (by omega), hbits 15 0 (by omega), hbits 24 16 (by omega),
    hbits 27 26 (by omega), SpellsEntry, and_assoc, and_assoc]

/-- The model's reading of the table, by the entries' words and the checks on entries and table. -/
theorem parseTable_iff (bytes : Vector Byte 128) (im : LotImage) :
    parseTable im.checkMode bytes.toList = some im.table ↔
      (∀ i, SpellsEntry bytes im i) ∧ (∀ i : Fin 16, im.table[i].Ok im.checkMode) ∧ im.TableOk := by
  rw [parseTable_eq_some, forall_congr' (parse_entry_iff bytes im), forall_and, and_assoc]
  exact and_congr_right fun _ => and_congr_right fun hok => tableOk_iff hok

/-- Load validation: an image is accepted exactly where its words spell it and it passes the nine checks. -/
theorem parseImage_iff (bytes : Vector Byte 128) (im : LotImage) :
    parseImage bytes = some im ↔ SpellsFields bytes im ∧ (∀ i, SpellsEntry bytes im i) ∧ im.Valid := by
  have hrange : SpellsFields bytes im → (im.inRange = true ↔ im.FieldsOk) := fun h => by
    rw [(eq_imageFields_iff.2 h).1]
    exact inRange_iff _ _ _
  calc parseImage bytes = some im
      ↔ SpellsFields bytes im ∧ parseTable im.checkMode bytes.toList = some im.table ∧ im.inRange = true := by
        rw [parseImage_eq_some, ← eq_imageFields_iff, and_assoc]
    _ ↔ SpellsFields bytes im ∧ parseTable im.checkMode bytes.toList = some im.table ∧ im.FieldsOk :=
        and_congr_right fun h => and_congr_right fun _ => hrange h
    _ ↔ SpellsFields bytes im ∧ (∀ i, SpellsEntry bytes im i) ∧ im.Valid := by
        rw [parseTable_iff, LotImage.Valid]
        tauto

/-- Settles O33. -/
theorem imagesAreAcceptedExactlyWhenValid : Obligations.ImagesAreAcceptedExactlyWhenValid :=
  parseImage_iff

/-! ## The end of an event outside DRAINING (R58, R59) -/

theorem arbitrate_lot (s : State) : s.arbitrate.lot = s.lot := by
  rcases arbitrate_cases s with ⟨e, -⟩ | ⟨e, -⟩ | ⟨e, -⟩ <;> rw [e] <;> rfl

theorem arbitrate_alert (s : State) : s.arbitrate.alert = s.alert := by
  rcases arbitrate_cases s with ⟨e, -⟩ | ⟨e, -⟩ | ⟨e, -⟩ <;> rw [e] <;> rfl

/-- Where no UNUSED spoil and no CLOSE record is due, the lot controller starts nothing by itself, however often it
looks. -/
theorem cascade_of_not_due {s : State} (hu : s.unusedDue = false) (hc : s.closeDue = false) (k : Nat) :
    cascade k s = s := by
  have hown : s.ownEvent = s := by simp [State.ownEvent, hu, hc]
  induction k with
  | zero => rfl
  | succ k ih => rw [cascade, hown, ih]

theorem unusedDue_of_ne_draining {s : State} (h : s.lot.state ≠ .draining) : s.unusedDue = false := by
  simp [State.unusedDue, h]

theorem closeDue_of_ne_draining {s : State} (h : s.lot.state ≠ .draining) : s.closeDue = false := by
  simp [State.closeDue, h]

/-- Outside DRAINING the end of an event is the arbiter's examination and the condition report. -/
theorem finish_of_ne_draining {s : State} (h : s.lot.state ≠ .draining) :
    s.finish = s.arbitrate.reportConditions := by
  have harb : s.arbitrate.lot.state ≠ .draining := by rwa [arbitrate_lot]
  rw [State.finish, cascade_of_not_due (unusedDue_of_ne_draining harb) (closeDue_of_ne_draining harb)]

/-! ## What the end of an event leaves alone, in parts (R37, R52, R58, R60, R151) -/

/-- An UNUSED spoil that is due changes the deque, the log and SPOILED, and nothing else. -/
theorem spoilUnused_of_due {s : State} (h : s.unusedDue = true) :
    ∃ deque log, s.spoilUnused =
      { s with pool := { s.pool with deque := deque }, log := log, tallies := s.tallies.raise .spoiled } := by
  obtain ⟨-, -, kept, e, hdeque⟩ := unusedDue_back h
  exact ⟨_, _, spoilUnused_eq hdeque⟩

theorem finish_lot (s : State) : ∃ q, s.finish.lot = { s.lot with closeQueued := q } := by
  refine finish_induct (P := fun u => ∃ q, u.lot = { s.lot with closeQueued := q })
    (fun _ h _ _ => h) (fun _ h _ _ => h) (fun u h hdue => ?_) (fun u h _ _ => ?_) (fun _ h => h) s ⟨_, rfl⟩
  · obtain ⟨deque, log, e⟩ := spoilUnused_of_due hdue
    rw [e]
    exact h
  · obtain ⟨q, hq⟩ := h
    exact ⟨true, by rw [queueClose_eq, hq]⟩

theorem finish_pool (s : State) : ∃ d, s.finish.pool = { s.pool with deque := d } := by
  refine finish_induct (P := fun u => ∃ d, u.pool = { s.pool with deque := d })
    (fun _ h _ _ => h) (fun _ h _ _ => h) (fun u h hdue => ?_) (fun _ h _ _ => h) (fun _ h => h) s ⟨_, rfl⟩
  obtain ⟨deque, log, e⟩ := spoilUnused_of_due hdue
  obtain ⟨d, hd⟩ := h
  exact ⟨deque, by rw [e, hd]⟩

theorem finish_alert (s : State) : ∃ l, s.finish.alert = { s.alert with latch := l } := by
  refine finish_induct (P := fun u => ∃ l, u.alert = { s.alert with latch := l })
    (fun _ h _ _ => h) (fun _ h _ _ => h) (fun u h hdue => ?_) (fun _ h _ _ => h) (fun u h => ?_) s ⟨_, rfl⟩
  · obtain ⟨deque, log, e⟩ := spoilUnused_of_due hdue
    rw [e]
    exact h
  · obtain ⟨l, hl⟩ := h
    exact ⟨_, by rw [reportConditions_eq, hl]⟩

theorem finish_tallies (s : State) : ∃ k, s.finish.tallies = { s.tallies with spoiled := k } := by
  refine finish_induct (P := fun u => ∃ k, u.tallies = { s.tallies with spoiled := k })
    (fun _ h _ _ => h) (fun _ h _ _ => h) (fun u h hdue => ?_) (fun _ h _ _ => h) (fun _ h => h) s ⟨_, rfl⟩
  obtain ⟨deque, log, e⟩ := spoilUnused_of_due hdue
  obtain ⟨k, hk⟩ := h
  exact ⟨raised k, by rw [e, hk]; rfl⟩

theorem finish_supply (s : State) :
    s.finish.supply.unwrap = s.supply.unwrap ∧ s.finish.supply.exhausted = s.supply.exhausted ∧
    s.finish.supply.appendFailures = s.supply.appendFailures ∧ s.finish.supply.debouncer = s.supply.debouncer := by
  refine finish_induct (P := fun u => u.supply.unwrap = s.supply.unwrap ∧ u.supply.exhausted = s.supply.exhausted ∧
      u.supply.appendFailures = s.supply.appendFailures ∧ u.supply.debouncer = s.supply.debouncer)
    (fun _ h _ _ => h) (fun _ h _ _ => h) (fun u h hdue => ?_) (fun _ h _ _ => h) (fun _ h => h) s
    ⟨rfl, rfl, rfl, rfl⟩
  obtain ⟨deque, log, e⟩ := spoilUnused_of_due hdue
  rw [e]
  exact h

/-- Settles O41: the frame of the end of an event, block by block. -/
theorem finishKeepsTheRest : Obligations.FinishKeepsTheRest := by
  intro s
  refine ⟨⟨s.finish_sites, s.finish_timers, s.finish_lanes, s.finish_exc, s.finish_pointers, s.finish_latches,
    s.finish_pending⟩, finish_lot s, finish_pool s, finish_alert s, finish_tallies s, finish_supply s, fun h => ?_⟩
  rw [finish_of_ne_draining h, reportConditions_eq, arbitrate_alert]
  exact ⟨_, rfl⟩

/-! ## DRAINING (R37, R38, R146, R151) -/

/-- Two states that agree in everything that the lot controller's own events in DRAINING read or write: they may differ
in the port, in what has left the part and in what those events do not touch. -/
structure SameDrain (s u : State) : Prop where
  lot : u.lot = s.lot
  deque : u.pool.deque = s.pool.deque
  log : u.log = s.log
  tallies : u.tallies = s.tallies
  sites : u.sites = s.sites
  draw : u.supply.draw = s.supply.draw

/-- A FETCH is wanted in OPEN alone (R52), so that the arbiter starts no draw in DRAINING. -/
theorem arbitrate_sameDrain {s : State} (h : s.lot.state = .draining) : SameDrain s s.arbitrate := by
  rcases arbitrate_cases s with ⟨e, -⟩ | ⟨-, -, hfetch⟩ | ⟨e, -⟩
  · rw [e]
    exact ⟨rfl, rfl, rfl, rfl, rfl, rfl⟩
  · simp [State.fetchWanted, h] at hfetch
  · rw [e]
    exact ⟨rfl, rfl, rfl, rfl, rfl, rfl⟩

/-- Records that the log can still take beside the reservations lent (R142). -/
def logRoom (s : State) : Nat := 16 - (s.log.records.length + s.log.reservations)

/-- How many keys of the pool the log has room for. -/
def unusedCount (s : State) : Nat := min s.pool.deque.length (logRoom s)

/-- The tallies after the UNUSED spoils. -/
def drainedTallies (s : State) : Tallies := { s.tallies with spoiled := s.tallies.spoiled + unusedCount s }

/-- The UNUSED spoils leave the lot drained and the log with room for a CLOSE record that is not yet queued. -/
def closesAfter (s : State) : Bool :=
  unusedCount s = s.pool.deque.length && unusedCount s < logRoom s && s.bindings = 0 && s.supply.draw.isNone &&
    !s.lot.closeQueued

/-- `u` is `s` after what the lot controller starts by itself in DRAINING. -/
structure DrainsTo (s u : State) : Prop where
  deque : u.pool.deque = s.pool.deque.take (s.pool.deque.length - unusedCount s)
  tallies : u.tallies = drainedTallies s
  reservations : u.log.reservations = s.log.reservations
  closeQueued : u.lot.closeQueued = (s.lot.closeQueued || closesAfter s)
  records : u.log.records.map LogRecord.body =
    s.log.records.map LogRecord.body ++
      (s.pool.deque.reverse.take (unusedCount s)).map
        (fun e => .spoil none e.serial .unused (Vector.replicate 4 none) false) ++
      (if closesAfter s then [.closed (drainedTallies s)] else [])

theorem canLend_iff_logRoom (s : State) : s.canLend = true ↔ 0 < logRoom s := by
  rw [canLend_iff, logRoom]
  omega

/-- States that agree for DRAINING have the same spoils and the same CLOSE record before them. -/
theorem DrainsTo.of_sameDrain {s v u : State} (h : SameDrain s v) (hd : DrainsTo v u) : DrainsTo s u := by
  obtain ⟨hlot, hdeque, hlog, htallies, hsites, hdraw⟩ := h
  have hroom : logRoom v = logRoom s := by simp only [logRoom, hlog]
  have hcount : unusedCount v = unusedCount s := by simp only [unusedCount, hdeque, hroom]
  have hafter : drainedTallies v = drainedTallies s := by simp only [drainedTallies, htallies, hcount]
  have hbind : v.bindings = s.bindings := by simp only [State.bindings, hsites]
  have hcloses : closesAfter v = closesAfter s := by
    simp only [closesAfter, hcount, hdeque, hroom, hbind, hdraw, hlot]
  obtain ⟨h1, h2, h3, h4, h5⟩ := hd
  rw [hdeque, hcount] at h1
  rw [hafter] at h2
  rw [hlog] at h3
  rw [hlot, hcloses] at h4
  rw [hlog, hdeque, hcount, hafter, hcloses] at h5
  exact ⟨h1, h2, h3, h4, h5⟩

/-- States that agree for DRAINING are the same outcome of it. -/
theorem DrainsTo.trans_sameDrain {s v u : State} (hd : DrainsTo s v) (h : SameDrain v u) : DrainsTo s u := by
  obtain ⟨hlot, hdeque, hlog, htallies, -, -⟩ := h
  exact ⟨by rw [hdeque, hd.deque], by rw [htallies, hd.tallies], by rw [hlog, hd.reservations],
    by rw [hlot, hd.closeQueued], by rw [hlog, hd.records]⟩

/-- Where neither an UNUSED spoil nor the CLOSE record is due in DRAINING, there is nothing to drain. -/
theorem DrainsTo.refl_of_not_due {s : State} (hlot : s.lot.state = .draining) (hu : s.unusedDue = false)
    (hc : s.closeDue = false) : DrainsTo s s := by
  have hcount : unusedCount s = 0 := by
    by_contra hne
    have hkeys : s.pool.deque ≠ [] := fun h => hne (by simp [unusedCount, h])
    have hlend : s.canLend = true := (canLend_iff_logRoom s).2 (by unfold unusedCount at hne; omega)
    exact absurd ((unusedDue_iff s).2 ⟨hlot, hkeys, hlend⟩) (by simp [hu])
  have hcloses : closesAfter s = false := by
    by_contra hne
    simp only [closesAfter, hcount, Bool.not_eq_false, Bool.and_eq_true, decide_eq_true_eq, Option.isNone_iff_eq_none,
      Bool.not_eq_true'] at hne
    obtain ⟨⟨⟨⟨hempty, hroom⟩, hbind⟩, hdraw⟩, hqueued⟩ := hne
    have hdrained : s.drained = true := (drained_iff s).2 ⟨hbind, hdraw, List.length_eq_zero_iff.1 hempty.symm⟩
    exact absurd ((closeDue_iff s).2 ⟨hlot, hdrained, hqueued, (canLend_iff_logRoom s).2 hroom⟩) (by simp [hc])
  constructor <;> simp [hcount, hcloses, drainedTallies]

/-- The CLOSE record where it is due: the pool is empty, and the record is all that follows. -/
theorem DrainsTo.of_closeDue {s : State} (h : s.closeDue = true) : DrainsTo s s.queueClose := by
  obtain ⟨-, hdrained, hqueued, hlend⟩ := (closeDue_iff s).1 h
  obtain ⟨hbind, hdraw, hdeque⟩ := (drained_iff s).1 hdrained
  have hroom := (canLend_iff_logRoom s).1 hlend
  have hcount : unusedCount s = 0 := by simp [unusedCount, hdeque]
  have hcloses : closesAfter s = true := by simp [closesAfter, hcount, hdeque, hroom, hbind, hdraw, hqueued]
  constructor <;> simp [hcount, hcloses, drainedTallies]

/-- One key spoiled from the back of the pool, and then the rest. -/
theorem DrainsTo.of_spoilUnused {s u : State} {kept : List KeyEntry} {e : KeyEntry}
    (hdeque : s.pool.deque = kept ++ [e]) (hroom : 0 < logRoom s) (htally : s.tallies.spoiled < 0xFFFFFFFF)
    (h : DrainsTo s.spoilUnused u) : DrainsTo s u := by
  have hlen : s.pool.deque.length = kept.length + 1 := by simp [hdeque]
  have hroom' : logRoom s = logRoom s.spoilUnused + 1 := by
    rw [spoilUnused_eq hdeque]
    simp only [logRoom, List.length_append, List.length_singleton] at hroom ⊢
    omega
  have hkept : s.spoilUnused.pool.deque = kept := by rw [spoilUnused_eq hdeque]
  have hcount : unusedCount s = unusedCount s.spoilUnused + 1 := by
    rw [unusedCount, unusedCount, hlen, hkept, hroom', Nat.add_min_add_right]
  have hafter : drainedTallies s.spoilUnused = drainedTallies s := by
    rw [drainedTallies, drainedTallies, hcount, spoilUnused_eq hdeque]
    simp only [Tallies.raise, raised, if_pos htally, Tallies.mk.injEq, true_and, and_true]
    omega
  have hcloses : closesAfter s.spoilUnused = closesAfter s := by
    rw [closesAfter, closesAfter, hcount, hroom', hlen, hkept]
    simp only [Nat.add_right_cancel_iff, Nat.add_lt_add_iff_right]
    rw [spoilUnused_eq hdeque]
    rfl
  obtain ⟨h1, h2, h3, h4, h5⟩ := h
  rw [hkept] at h1 h5
  rw [hafter] at h2 h5
  rw [hcloses] at h4 h5
  refine ⟨?_, h2, ?_, ?_, ?_⟩
  · rw [h1, hlen, hcount, hdeque, Nat.add_sub_add_right, List.take_append_of_le_length (Nat.sub_le _ _)]
  · rw [h3, spoilUnused_eq hdeque]
  · rw [h4, spoilUnused_eq hdeque]
  · rw [h5, hcount, hdeque, spoilUnused_eq hdeque]
    simp [Ident.absent]

/-- What the lot controller starts by itself in DRAINING, given as many turns as the pool has keys and one more for the
CLOSE record. -/
theorem drainsTo_cascade (k : Nat) (s : State) (hlot : s.lot.state = .draining) (hk : s.pool.deque.length < k)
    (hbound : s.tallies.spoiled + s.pool.deque.length ≤ 0xFFFFFFFF) : DrainsTo s (cascade k s) := by
  induction k generalizing s with
  | zero => omega
  | succ k ih =>
    rcases ownEvent_cases s with ⟨e, hdue⟩ | ⟨e, -, hdue⟩ | ⟨-, hu, hc⟩
    · obtain ⟨-, hlend, kept, key, hdeque⟩ := unusedDue_back hdue
      have hlen : s.pool.deque.length = kept.length + 1 := by simp [hdeque]
      have hspoiled : s.tallies.spoiled < 0xFFFFFFFF := by omega
      have hsame : SameDrain s.spoilUnused s.ownEvent := by
        rw [e]
        exact arbitrate_sameDrain (by rw [spoilUnused_eq hdeque]; exact hlot)
      have htallies : s.ownEvent.tallies.spoiled = s.tallies.spoiled + 1 := by
        rw [hsame.tallies, spoilUnused_eq hdeque]
        simp [Tallies.raise, raised, if_pos hspoiled]
      have hkept : s.ownEvent.pool.deque = kept := by rw [hsame.deque, spoilUnused_eq hdeque]
      have hstate : s.ownEvent.lot.state = .draining := by rw [hsame.lot, spoilUnused_eq hdeque]; exact hlot
      have hrest := ih s.ownEvent hstate (by rw [hkept]; omega) (by rw [hkept, htallies]; omega)
      exact .of_spoilUnused hdeque ((canLend_iff_logRoom s).1 hlend) hspoiled (.of_sameDrain hsame hrest)
    · have hsame : SameDrain s.queueClose s.ownEvent := by
        rw [e]
        exact arbitrate_sameDrain hlot
      have hempty : s.ownEvent.pool.deque = [] := by
        rw [hsame.deque]
        exact ((drained_iff s).1 ((closeDue_iff s).1 hdue).2.1).2.2
      have hqueued : s.ownEvent.lot.closeQueued = true := by rw [hsame.lot]; rfl
      rw [cascade, cascade_of_not_due (by simp [State.unusedDue, hempty]) (by simp [State.closeDue, hqueued])]
      exact (DrainsTo.of_closeDue hdue).trans_sameDrain hsame
    · rw [cascade_of_not_due hu hc]
      exact .refl_of_not_due hlot hu hc

/-- The condition report touches nothing that the own events in DRAINING read or write. -/
theorem reportConditions_sameDrain (s : State) : SameDrain s s.reportConditions := ⟨rfl, rfl, rfl, rfl, rfl, rfl⟩

/-- The end of an event in DRAINING. -/
theorem drainsTo_finish {s : State} (hlot : s.lot.state = .draining)
    (hbound : s.tallies.spoiled + s.pool.deque.length ≤ 0xFFFFFFFF) : DrainsTo s s.finish := by
  have hsame := arbitrate_sameDrain hlot
  have hcascade : DrainsTo s.arbitrate (cascade (s.pool.deque.length + 1) s.arbitrate) :=
    drainsTo_cascade _ _ (by rw [hsame.lot]; exact hlot) (by rw [hsame.deque]; omega)
      (by rw [hsame.deque, hsame.tallies]; exact hbound)
  exact (DrainsTo.of_sameDrain hsame hcascade).trans_sameDrain (reportConditions_sameDrain _)

/-- Settles O42. -/
theorem drainingSpoilsFromTheBack : Obligations.DrainingSpoilsFromTheBack := by
  intro s hlot hbound
  obtain ⟨hdeque, htallies, hreservations, hqueued, hrecords⟩ := drainsTo_finish hlot hbound
  exact ⟨hdeque, htallies, hreservations, hqueued, hrecords⟩

end Sys2Proof.Machine.LotStates
end

section
/-! What every step keeps of R94 (attempts) and R26 (the held image): one lemma per operation, then one per row. -/

namespace Sys2Proof.Machine.LotStates

/-! ## Attempts and the held image (R26, R94)

`Bounded a i` carries both invariants of the statement through an event: R94 where `a` is asked, R26 where `i` is. It
reads the lot state, the held image, the waiting set, the sites and the lanes, so that an operation which leaves these
alone keeps it by definition. -/

/-- R94 at one site, beside the transaction its lane records. -/
structure AttemptsAt (limit : Nat) (c : SiteContext) (t : Option Transaction) : Prop where
  within : c.attempts ≤ limit
  staging : c.state = .staging → c.attempts < limit
  inFlight : c.state = .armed → ∀ x ∈ t, x.arm = true → c.attempts < limit

/-- R12, R15: a running timer has a limit of at least 1. -/
def LimitAt (t : Timer) : Prop := t.isRunning = true → 1 ≤ t.limit

/-- The invariants on the parts of the state that they read. -/
structure BoundedParts (a i : Prop) (lot : LotState) (image : Option LotImage) (waiting : SiteSet)
    (sites : PerSite SiteContext) (lanes : PerSite Lane) : Prop where
  held : lot.imageInForce = true → image.isSome = true
  waits : ∀ n : Site, waiting[n] = true → image.isSome = true
  retry : a → (image.getD LotImage.blank).retryLimit ≤ 4 ∧ ∀ im ∈ image, 1 ≤ im.retryLimit
  attempts : a → ∀ n : Site, AttemptsAt (image.getD LotImage.blank).retryLimit sites[n] lanes[n].transaction
  images : i → ∀ im ∈ image, im.Valid
  limits : i → ∀ n : Site, LimitAt lanes[n].timer

/-- The invariants of a state: an image is held where one is in force and where a site waits, and R94 and R26. -/
def Bounded (a i : Prop) (s : State) : Prop :=
  BoundedParts a i s.lot.state s.lot.image s.pool.waiting s.sites s.lanes

variable {a i : Prop} {s : State} {n : Site}

/-! ### At one site -/

/-- Outside STAGING and ARMED only the bound itself is asked. -/
theorem AttemptsAt.of_calm {limit : Nat} {c : SiteContext} {t : Option Transaction} (hw : c.attempts ≤ limit)
    (hs : c.state ≠ .staging) (ha : c.state ≠ .armed) : AttemptsAt limit c t :=
  ⟨hw, fun h => absurd h hs, fun h => absurd h ha⟩

/-- A lane without an ARM write in flight asks nothing of an ARMED site but the bound itself. -/
theorem AttemptsAt.of_no_arm {limit : Nat} {c : SiteContext} {t u : Option Transaction} (h : AttemptsAt limit c t)
    (hu : c.state ≠ .armed ∨ ∀ x ∈ u, x.arm = false) : AttemptsAt limit c u := by
  refine ⟨h.within, h.staging, fun harmed x hx harm => ?_⟩
  rcases hu with hu | hu
  · exact absurd harmed hu
  · rw [hu x hx] at harm
    cases harm

/-- A stopped timer has no limit to keep. -/
theorem limitAt_stopped : LimitAt .stopped := fun h => by cases h

theorem limitAt_running {c l : Nat} (h : 1 ≤ l) : LimitAt (.running c l) := fun _ => h

/-! ### What an operation reads -/

theorem Bounded.retry_pos (h : Bounded a i s) (himage : s.lot.image.isSome = true) (ha : a) :
    1 ≤ s.image.retryLimit := by
  obtain ⟨im, him⟩ := Option.isSome_iff_exists.1 himage
  have := (h.retry ha).2 im him
  simpa [State.image, him] using this

theorem Bounded.responseLimit_pos (h : Bounded a i s) (hi : i) : 1 ≤ s.responseLimit := by
  cases hforce : s.lot.state.imageInForce with
  | false => simp [State.responseLimit, hforce]
  | true =>
    obtain ⟨im, him⟩ := Option.isSome_iff_exists.1 (h.held hforce)
    obtain ⟨⟨⟨hlimit, -⟩, -⟩, -⟩ := h.images hi im him
    simpa [State.responseLimit, State.image, hforce, him] using hlimit

/-! ### One site, one lane, the waiting set -/

/-- What holds of a new entry and of every old one holds of every entry. -/
theorem forall_perSite_set {α : Type} {k : Nat} {P : Fin k → α → Prop} {v : Vector α k} {n : Fin k} {x : α}
    (hx : P n x) (hv : ∀ m, P m v[m]) (m : Fin k) : P m (v.set n x)[m] := by
  by_cases hm : m = n
  · subst hm
    rwa [perSite_set_self]
  · rw [perSite_set_ne _ _ hm]
    exact hv m

theorem Bounded.setSite (h : Bounded a i s) {c : SiteContext}
    (hc : a → AttemptsAt s.image.retryLimit c s.lanes[n].transaction) : Bounded a i (s.setSite n c) :=
  ⟨h.held, h.waits, h.retry,
    fun ha => forall_perSite_set (P := fun m c => AttemptsAt _ c s.lanes[m].transaction) (hc ha) (h.attempts ha),
    h.images, h.limits⟩

/-- A site that goes to a state other than STAGING and ARMED with its attempts kept. -/
theorem Bounded.setSite_calm (h : Bounded a i s) {c : SiteContext} (hw : c.attempts = s.sites[n].attempts)
    (hs : c.state ≠ .staging) (ha : c.state ≠ .armed) : Bounded a i (s.setSite n c) :=
  h.setSite fun hasked => .of_calm (hw ▸ (h.attempts hasked n).within) hs ha

/-- A site that keeps its state and its attempts. -/
theorem Bounded.setSite_same (h : Bounded a i s) {c : SiteContext} (hw : c.attempts = s.sites[n].attempts)
    (hs : c.state = s.sites[n].state) : Bounded a i (s.setSite n c) := by
  refine h.setSite fun ha => ?_
  obtain ⟨h1, h2, h3⟩ := h.attempts ha n
  exact ⟨hw ▸ h1, by rw [hs, hw]; exact h2, by rw [hs, hw]; exact h3⟩

theorem Bounded.setLane (h : Bounded a i s) {l : Lane}
    (ha : a → AttemptsAt s.image.retryLimit s.sites[n] l.transaction) (hl : i → LimitAt l.timer) :
    Bounded a i (s.setLane n l) :=
  ⟨h.held, h.waits, h.retry,
    fun hasked => forall_perSite_set (P := fun m (l : Lane) => AttemptsAt _ s.sites[m] l.transaction) (ha hasked)
      (h.attempts hasked),
    h.images, fun hi => forall_perSite_set (P := fun _ (l : Lane) => LimitAt l.timer) (hl hi) (h.limits hi)⟩

/-- A site and its lane together. -/
theorem Bounded.setSite_setLane (h : Bounded a i s) {c : SiteContext} {l : Lane}
    (hc : a → AttemptsAt s.image.retryLimit c l.transaction) (hl : i → LimitAt l.timer) :
    Bounded a i ((s.setSite n c).setLane n l) := by
  refine ⟨h.held, h.waits, h.retry, fun ha m => ?_, h.images,
    fun hi => forall_perSite_set (P := fun _ (l : Lane) => LimitAt l.timer) (hl hi) (h.limits hi)⟩
  rw [State.setLane_sites, State.setSite_sites, State.setLane_lanes, State.setSite_lanes]
  by_cases hm : m = n
  · subst hm
    rw [perSite_set_self, perSite_set_self]
    exact hc ha
  · rw [perSite_set_ne _ _ hm, perSite_set_ne _ _ hm]
    exact h.attempts ha m

/-- A lane without an ARM write in flight. -/
theorem Bounded.setLane_no_arm (h : Bounded a i s) {l : Lane}
    (ha : s.sites[n].state ≠ .armed ∨ ∀ x ∈ l.transaction, x.arm = false) (hl : i → LimitAt l.timer) :
    Bounded a i (s.setLane n l) :=
  h.setLane (fun hasked => (h.attempts hasked n).of_no_arm ha) hl

/-- A lane without a transaction. -/
theorem Bounded.endLane (h : Bounded a i s) {l : Lane} (hl : l.transaction = none) (hi : i → LimitAt l.timer) :
    Bounded a i (s.setLane n l) :=
  h.setLane_no_arm (.inr fun x hx => by rw [hl] at hx; cases hx) hi

theorem Bounded.setLane_idle (h : Bounded a i s) : Bounded a i (s.setLane n Lane.idle) :=
  h.endLane rfl fun _ => limitAt_stopped

/-- A request forwarded that is not an ARM write at an ARMED site. -/
theorem Bounded.forward (h : Bounded a i s) {t : Transaction} (d : Option Word)
    (ha : s.sites[n].state ≠ .armed ∨ t.arm = false) : Bounded a i (s.forward n t d) :=
  Bounded.setLane_no_arm (s := s.send _) h (ha.imp_right fun ht x hx => by cases hx; exact ht)
    fun hi => limitAt_running (h.responseLimit_pos hi)

theorem Bounded.setWaiting (h : Bounded a i s) {b : Bool} (hb : b = true → s.lot.image.isSome = true) :
    Bounded a i (s.setWaiting n b) :=
  ⟨h.held, forall_perSite_set (P := fun _ b => b = true → s.lot.image.isSome = true) hb h.waits, h.retry, h.attempts,
    h.images, h.limits⟩

theorem Bounded.unsetWaiting (h : Bounded a i s) : Bounded a i (s.setWaiting n false) :=
  h.setWaiting fun hb => nomatch hb

/-- The end of an event. -/
theorem Bounded.finish (h : Bounded a i s) : Bounded a i s.finish := by
  obtain ⟨hsites, -, hlanes, -, -, -, -, hlot, himage, -, hwaiting, -, -⟩ := finish_frame s
  rw [Bounded, hsites, hlanes, hlot, himage, hwaiting]
  exact h

/-! ### Keys (04, 05) -/

theorem Bounded.endBinding (h : Bounded a i s) {next : SiteState} (last : LastOutcome) (hs : next ≠ .staging)
    (ha : next ≠ .armed) : Bounded a i (s.endBinding n next last) :=
  h.setSite_calm rfl hs ha

theorem Bounded.spoil (h : Bounded a i s) (r : SpoilReason) {next : SiteState} (hs : next ≠ .staging)
    (ha : next ≠ .armed) : Bounded a i (s.spoil n r next) := by
  unfold State.spoil
  split
  · exact h
  · exact h.endBinding (.spoil r) hs ha

theorem Bounded.commit (h : Bounded a i s) : Bounded a i (s.commit n) := by
  unfold State.commit
  split
  · exact h
  · exact h.endBinding .commit (by decide) (by decide)

theorem Bounded.blank (h : Bounded a i s) : Bounded a i (s.blank n) :=
  Bounded.setSite_calm (s := (s.useRes _).raiseTally .blanked) h rfl (by simp) (by simp)

/-- A key bound where an image is held: its retry limit leaves one attempt. -/
theorem Bounded.bindKey (h : Bounded a i s) (himage : s.lot.image.isSome = true) (e : KeyEntry) (o : Fin 8) :
    Bounded a i (s.bindKey n e o) :=
  Bounded.setSite h fun ha => ⟨Nat.zero_le _, fun _ => h.retry_pos himage ha, fun harmed => nomatch harmed⟩

theorem bindKey_state (s : State) (n : Site) (e : KeyEntry) (o : Fin 8) :
    (s.bindKey n e o).sites[n].state = .staging := by
  simp [State.bindKey]

theorem Bounded.handOut (h : Bounded a i s) (hwaiting : s.pool.waiting[n] = true) (e : KeyEntry) :
    Bounded a i (s.handOut n e) := by
  have hbound := Bounded.bindKey (n := n) (h.unsetWaiting (n := n)) (h.waits n hwaiting) e
    (s.heldWrite n).stageOffset
  unfold State.handOut
  refine Bounded.forward ?_ _ (.inl ?_)
  · exact hbound
  · rw [bindKey_state]
    decide

theorem Bounded.deliver (h : Bounded a i s) (e : KeyEntry) (front : Bool) : Bounded a i (s.deliver e front) := by
  rcases deliver_cases s e front with ⟨n, hn, heq⟩ | ⟨-, heq⟩ <;> rw [heq]
  · exact h.handOut (recipient_some hn).1 e
  · exact h

theorem Bounded.returnKey (h : Bounded a i s) {next : SiteState} (hs : next ≠ .staging) (ha : next ≠ .armed) :
    Bounded a i (s.returnKey n next) := by
  unfold State.returnKey
  split
  · exact h
  · exact Bounded.deliver (s := (s.endBinding n next .returned).releaseRes) (h.endBinding .returned hs ha) _ _

theorem Bounded.endStaging (h : Bounded a i s) (r : SpoilReason) {spoiled returned : SiteState}
    (hs : spoiled ≠ .staging ∧ spoiled ≠ .armed) (hr : returned ≠ .staging ∧ returned ≠ .armed) :
    Bounded a i (s.endStaging n r spoiled returned) := by
  unfold State.endStaging
  split
  · exact h
  · split
    · exact h.spoil r hs.1 hs.2
    · exact h.returnKey hr.1 hr.2

theorem Bounded.dropHeld (h : Bounded a i s) (st : Status) : Bounded a i (s.dropHeld n st) :=
  Bounded.setLane_idle (h.unsetWaiting (n := n))

theorem Bounded.leaveOpen (h : Bounded a i s) : Bounded a i s.leaveOpen :=
  leaveOpen_induct (P := Bounded a i) (fun _ _ hu _ => hu.dropHeld .refused) s h

/-! ### The lot (02) -/

/-- Another lot state, beside the image held: one must be held where the new state has it in force. -/
theorem Bounded.setLot (h : Bounded a i s) {lot : LotController} (himage : lot.image = s.lot.image)
    (hforce : lot.state.imageInForce = true → s.lot.image.isSome = true) : Bounded a i { s with lot := lot } := by
  show BoundedParts a i lot.state lot.image s.pool.waiting s.sites s.lanes
  rw [himage]
  exact ⟨hforce, h.waits, h.retry, h.attempts, h.images, h.limits⟩

theorem Bounded.retime (h : Bounded a i s) : Bounded a i s.retime := by
  refine ⟨h.held, h.waits, h.retry, fun ha n => ?_, h.images, fun hi n => ?_⟩
  · rw [State.retime_lane]
    exact h.attempts ha n
  · rw [State.retime_lane]
    cases s.lanes[n].timer with
    | stopped => exact limitAt_stopped
    | running c l => exact limitAt_running (h.responseLimit_pos hi)

theorem Bounded.failLoad (h : Bounded a i s) (e : LoadError) : Bounded a i (s.failLoad e) :=
  Bounded.setLot h rfl fun hforce => nomatch hforce

theorem Bounded.enterLoading (h : Bounded a i s) : Bounded a i s.enterLoading := by
  have hloading : Bounded a i { s with lot := { s.lot with state := .loading, loadError := .none } } :=
    h.setLot rfl fun hforce => nomatch hforce
  by_cases hclosed : s.lot.state = .closed
  · rw [enterLoading_of_closed hclosed]
    exact Bounded.retime hloading
  · rw [enterLoading_of_ne_closed hclosed]
    exact hloading

theorem Bounded.freePort (h : Bounded a i s) : Bounded a i s.freePort := h

theorem Bounded.endDraw (h : Bounded a i s) : Bounded a i s.endDraw := by
  unfold State.endDraw
  split <;> exact h

theorem endDraw_lot (s : State) : s.endDraw.lot = s.lot := by
  unfold State.endDraw
  split <;> rfl

theorem imageInForce_of_active (h : s.lot.state = .opened ∨ s.lot.state = .draining) :
    s.lot.state.imageInForce = true := by
  rcases h with h | h <;> rw [h] <;> rfl

theorem Bounded.halt (h : Bounded a i s) (c : HaltCause) : Bounded a i (s.halt c) := by
  unfold State.halt
  split
  · next hactive =>
    have hleft : Bounded a i s.leaveOpen.freePort.endDraw := h.leaveOpen.freePort.endDraw
    have hlot : s.leaveOpen.freePort.endDraw.lot = s.lot := by
      rw [endDraw_lot, State.freePort_lot, State.leaveOpen_lot]
    generalize s.leaveOpen.freePort.endDraw = u at hleft hlot ⊢
    exact hleft.setLot rfl fun _ => hlot ▸ h.held (imageInForce_of_active hactive)
  · exact h

/-- Lot open: the new image is valid, and every site starts with no attempts. -/
theorem bounded_lotOpen (s : State) {im : LotImage} (him : im.Valid) : Bounded a i (s.freePort.lotOpen im) := by
  obtain ⟨⟨⟨hresponse, -, -, -, -, -, -, -, -, hretry, hretry4, -⟩, -⟩, -⟩ := id him
  rw [lotOpen_freePort_eq]
  refine ⟨fun _ => rfl, fun n hn => ?_, fun _ => ⟨hretry4, fun x hx => ?_⟩, fun _ n => ?_, fun _ x hx => ?_,
    fun _ n => ?_⟩
  · rw [perSite_replicate] at hn
    cases hn
  · cases hx
    exact hretry
  · rw [perSite_ofFn]
    refine .of_calm (Nat.zero_le _) ?_ ?_ <;> dsimp only <;> split <;> decide
  · cases hx
    exact him
  · rw [perSite_ofFn]
    dsimp only
    split
    · exact limitAt_stopped
    · exact limitAt_running hresponse

/-! ### Requests (01, 05): STAGE and ARM writes -/

theorem Bounded.bindClaim (h : Bounded a i s) (hlot : s.lot.state = .opened) {t : Transaction} (ht : t.arm = false) :
    Bounded a i (s.bindClaim n t) := by
  have himage : s.lot.image.isSome = true := h.held (by rw [hlot]; rfl)
  unfold State.bindClaim
  split
  · exact h
  · split
    · next e rest _ =>
      have hbound : Bounded a i (State.bindKey { s with pool := { s.pool with deque := rest } }.lend n e
          t.stageOffset) :=
        Bounded.bindKey (s := { s with pool := { s.pool with deque := rest } }.lend) h himage e t.stageOffset
      refine Bounded.finish (Bounded.forward ?_ _ (.inr ht))
      exact hbound
    · split
      · refine Bounded.finish (Bounded.setLane_no_arm ?_ (.inr fun x hx => ?_) fun _ => limitAt_stopped)
        · exact Bounded.setWaiting (s := s.lend) h fun _ => himage
        · cases hx
          exact ht
      · split
        · exact Bounded.finish (Bounded.forward (Bounded.blank (s := (s.raiseExc n .keyless).lend) h) _ (.inr ht))
        · exact Bounded.finish (s := ((s.raiseExc n .keyless).lend.releaseRes).answer n .refused) h

theorem Bounded.stageWrite (h : Bounded a i s) {t : Transaction} (ht : t.arm = false) :
    Bounded a i (s.stageWrite n t) := by
  unfold State.stageWrite
  split
  · unfold State.bindTrigger
    split
    · exact h
    · split
      · exact h
      · next hlot => exact h.bindClaim (by simpa using hlot) ht
  · split
    · exact h
    · refine Bounded.forward ?_ _ (.inr ht)
      exact h.setSite_same rfl rfl
  · exact h.forward _ (.inr ht)
  all_goals exact h

/-- An ARM write passes the arm check in STAGING alone, where an attempt is left (R93). -/
theorem Bounded.armWrite (h : Bounded a i s) (t : Transaction) : Bounded a i (s.armWrite n t) := by
  unfold State.armWrite
  split
  · next hpasses =>
    have hstaging : s.sites[n].state = .staging := by
      simp only [State.armAdmitted, Bool.and_eq_true, beq_iff_eq] at hpasses
      exact hpasses.1.1
    have hleft : a → s.sites[n].attempts < s.image.retryLimit := fun ha => (h.attempts ha n).staging hstaging
    exact Bounded.setSite_setLane (l := ⟨.outbound, .running 0 s.responseLimit, some _⟩) h
      (fun ha => ⟨(hleft ha).le, fun _ => hleft ha, fun _ _ _ _ => hleft ha⟩)
      fun hi => limitAt_running (h.responseLimit_pos hi)
  · exact h

/-- A request by its role (R9 to R11). -/
theorem Bounded.byRole (h : Bounded a i s) {t : Transaction} (ht : t.arm = false) (data : Word) :
    Bounded a i (s.byRole n t data) := by
  unfold State.byRole
  split
  · exact h.forward _ (.inr ht)
  · exact h
  iterate 3
    split
    · exact h.forward _ (.inr ht)
    · exact h.forward _ (.inr ht)
  · split
    · exact h
    · exact h.stageWrite ht
  · split
    · exact h.forward _ (.inr ht)
    · split
      · exact h.armWrite t
      · exact h.forward _ (.inr ht)
  · exact h

/-! ### Outcomes (R83 to R99) -/

theorem Bounded.identOutcome (h : Bounded a i s) (offset : Nat) (o : DieOutcome) :
    Bounded a i (s.identOutcome n offset o) := by
  unfold State.identOutcome
  split
  · exact h.setSite_same rfl rfl
  · exact h

theorem Bounded.stageOutcome (h : Bounded a i s) (offset : Nat) (o : DieOutcome) :
    Bounded a i (s.stageOutcome n offset o) := by
  unfold State.stageOutcome
  split
  · exact h
  · split
    · exact h.setSite_same rfl rfl
    · exact h

/-- A site comes back to STAGING with an attempt left (R94, R96). -/
theorem Bounded.backToStaging (h : Bounded a i s) (hleft : a → s.sites[n].attempts < s.image.retryLimit) :
    Bounded a i (s.backToStaging n) :=
  Bounded.setSite h fun ha => ⟨(hleft ha).le, fun _ => hleft ha, fun harmed => nomatch harmed⟩

theorem Bounded.statusOutcome (h : Bounded a i s) (o : DieOutcome) : Bounded a i (s.statusOutcome n o) := by
  unfold State.statusOutcome
  split
  · split
    · exact Bounded.setSite_calm h rfl (by simp) (by simp)
    · split
      · unfold State.statusFail
        split
        · next hleft => exact h.backToStaging fun _ => hleft
        · refine Bounded.finish (Bounded.spoil ?_ .burn (by decide) (by decide))
          exact h.setSite_same rfl rfl
      · exact h
  · exact h

theorem Bounded.compareCheck (h : Bounded a i s) (check : CheckWords) : Bounded a i (s.compareCheck n check) := by
  unfold State.compareCheck
  split
  · split
    · exact h.commit.finish
    · exact (h.spoil .mismatch (by decide) (by decide)).finish
  · exact h

theorem Bounded.checkOutcome (h : Bounded a i s) (offset : Nat) (o : DieOutcome) :
    Bounded a i (s.checkOutcome n offset o) := by
  unfold State.checkOutcome
  split
  · refine Bounded.compareCheck ?_ _
    exact h.setSite_same rfl rfl
  · exact h

theorem armOutcome_of_ne_armed (h : s.sites[n].state ≠ .armed) (o : DieOutcome) : s.armOutcome n o = s := by
  unfold State.armOutcome
  generalize s.sites[n].state = state at h ⊢
  cases state
  case armed => exact absurd rfl h
  all_goals rfl

/-- The outcome of an ARM write and the end of its transaction, together: the attempt counted is the one that was left
while the write was in flight (R94). -/
theorem Bounded.armOutcome_setLane (h : Bounded a i s) {t : Transaction} (ht : s.lanes[n].transaction = some t)
    (harm : t.arm = true) (o : DieOutcome) {l : Lane} (hl : l.transaction = none) (hi : i → LimitAt l.timer) :
    Bounded a i ((s.armOutcome n o).setLane n l) := by
  by_cases harmed : s.sites[n].state = .armed
  · have hleft : a → s.sites[n].attempts < s.image.retryLimit := fun ha =>
      (h.attempts ha n).inFlight harmed t ht harm
    have hcounted : Bounded a i
        ((s.setSite n { s.sites[n] with attempts := s.sites[n].attempts + 1 }).setLane n l) := by
      refine h.setSite_setLane (fun ha => ⟨hleft ha, fun hs => ?_, fun _ x hx _ => ?_⟩) hi
      · exact absurd (hs.symm.trans harmed) (by decide)
      · rw [hl] at hx
        cases hx
    unfold State.armOutcome
    rw [harmed]
    cases o with
    | nak =>
      have hback : Bounded a i (s.backToStaging n) := h.backToStaging hleft
      exact hback.endLane hl hi
    | ok data => exact hcounted
    | timeout => exact hcounted
  · rw [armOutcome_of_ne_armed harmed]
    exact h.endLane hl hi

/-- An outcome at the site engine and the end of its transaction at the lane. -/
theorem Bounded.outcome_setLane (h : Bounded a i s) {t : Transaction} (ht : s.lanes[n].transaction = some t)
    (o : DieOutcome) {l : Lane} (hl : l.transaction = none) (hi : i → LimitAt l.timer) :
    Bounded a i ((s.outcome n t o).setLane n l) := by
  have hend : ∀ u : State, Bounded a i u → Bounded a i (u.setLane n l) := fun _ hu => hu.endLane hl hi
  unfold State.outcome
  split
  · unfold State.outcomeByRole
    split
    · exact hend _ (h.identOutcome _ o)
    · exact hend _ (h.stageOutcome _ o)
    · split
      · next harm => exact h.armOutcome_setLane ht harm o hl hi
      · exact hend _ h
    · exact hend _ (h.statusOutcome o)
    · exact hend _ (h.checkOutcome _ o)
    all_goals exact hend _ h
  · exact hend _ h

/-! ### Contact (R18, R104, R105) -/

theorem Bounded.establish (h : Bounded a i s) : Bounded a i (s.establish n) :=
  Bounded.setSite h fun _ => .of_calm (Nat.zero_le _) (by simp) (by simp)

theorem Bounded.laneLoss (h : Bounded a i s) : Bounded a i (s.laneLoss n) := by
  unfold State.laneLoss
  split
  · exact h
  · exact h.setLane_idle
  · exact h.setLane_idle
  · exact h.setLane_idle

theorem Bounded.vacate (h : Bounded a i s) : Bounded a i (s.vacate n) :=
  h.setSite_calm rfl (by simp) (by simp)

theorem Bounded.siteLoss (h : Bounded a i s) : Bounded a i (s.siteLoss n) := by
  unfold State.siteLoss
  generalize s.sites[n].state = state
  cases state
  case ready =>
    dsimp only
    split
    · refine Bounded.finish (Bounded.vacate ?_)
      exact h.unsetWaiting
    · exact h.vacate
  case staging => exact (h.endStaging .lift (by decide) (by decide)).finish
  case armed | programmed => exact (h.spoil .lift (by decide) (by decide)).finish
  all_goals exact h.vacate

/-! ### Expiries and the tick (R14, R15, R112, R118, R121, R124) -/

theorem Bounded.keyWaitExpired (h : Bounded a i s) : Bounded a i (s.keyWaitExpired n) := by
  unfold State.keyWaitExpired
  have hout : Bounded a i (((s.stopKeyWait n).setWaiting n false).raiseExc n .keyless) := h.unsetWaiting
  split
  · split
    · refine Bounded.finish (Bounded.forward hout.blank _ (.inl ?_))
      simp [State.blank, -Fin.getElem_fin]
    · refine Bounded.finish (Bounded.setLane_idle ?_)
      exact hout
  · exact h

theorem Bounded.dwellExpired (h : Bounded a i s) : Bounded a i (s.dwellExpired n) :=
  Bounded.finish (Bounded.endStaging (s := s.stopBurnTimers n) h .dwell (by decide) (by decide))

theorem Bounded.watchdogExpired (h : Bounded a i s) : Bounded a i (s.watchdogExpired n) :=
  Bounded.finish (Bounded.spoil (s := s.stopBurnTimers n) h .stall (by decide) (by decide))

/-- A timer that has reached its limit, or reaches it at the next tick, is running. -/
theorem isRunning_of_reached {t : Timer} (h : t.reached = true) : t.isRunning = true := by
  cases t with
  | stopped => cases h
  | running c l => rfl

theorem isRunning_of_lastTick {t : Timer} (h : t.lastTick = true) : t.isRunning = true := by
  cases t with
  | stopped => cases h
  | running c l => rfl

/-- Response timer expiry: the quiet timer runs under the limit of the response timer, which was running. -/
theorem Bounded.responseExpired (h : Bounded a i s) (hrun : s.lanes[n].timer.isRunning = true) :
    Bounded a i (s.responseExpired n) := by
  have hquiet : i → LimitAt (.running 0 s.lanes[n].timer.limit) := fun hi => limitAt_running (h.limits hi n hrun)
  have hraised : Bounded a i ((s.answer n .timeout).raiseExc n .timeout) := h
  unfold State.responseExpired
  split
  · next t ht =>
    split
    · exact hraised.outcome_setLane (l := ⟨.quarantine, _, none⟩) ht .timeout rfl hquiet
    · exact hraised.endLane rfl hquiet
  · exact hraised.endLane rfl hquiet

theorem Bounded.quietExpired (h : Bounded a i s) : Bounded a i (s.quietExpired n) := h.setLane_idle

theorem limitAt_count {t : Timer} (h : LimitAt t) : LimitAt t.count := by
  cases t with
  | stopped => exact limitAt_stopped
  | running c l => exact limitAt_running (h rfl)

theorem Bounded.countTick (h : Bounded a i s) : Bounded a i s.countTick := by
  refine ⟨h.held, h.waits, h.retry, fun ha n => ?_, h.images, fun hi n => ?_⟩ <;> rw [State.countTick_lane]
  · exact h.attempts ha n
  · exact limitAt_count (h.limits hi n)

/-- What acts where its condition holds. -/
theorem Bounded.ite_of (h : Bounded a i s) {c : Prop} [Decidable c] {u : State} (hu : c → Bounded a i u) :
    Bounded a i (if c then u else s) := by
  split
  · next hc => exact hu hc
  · exact h

theorem Bounded.ite (h : Bounded a i s) {c : Prop} [Decidable c] {u : State} (hu : Bounded a i u) :
    Bounded a i (if c then u else s) := h.ite_of fun _ => hu

theorem Bounded.expireAt (h : Bounded a i s) (n : Site) : Bounded a i (s.expireAt n) := by
  unfold State.expireAt
  extract_lets s1 s2 s3 s4
  have h1 : Bounded a i s1 := h.ite_of fun _ => h.establish
  have h2 : Bounded a i s2 := h1.ite_of fun _ => h1.keyWaitExpired
  have h3 : Bounded a i s3 := h2.ite_of fun _ => h2.dwellExpired
  have h4 : Bounded a i s4 := h3.ite_of fun _ => h3.watchdogExpired
  refine h4.ite_of fun hlane => ?_
  split
  · exact h4.responseExpired (isRunning_of_reached hlane)
  · exact h4.quietExpired
  · exact h4
  · exact h4

theorem Bounded.tick (h : Bounded a i s) : Bounded a i ((List.finRange 8).foldl State.expireAt s.countTick) := by
  have hcount := h.countTick
  generalize s.countTick = u at hcount
  induction List.finRange 8 generalizing u with
  | nil => exact hcount
  | cons m sites ih => exact ih _ (hcount.expireAt m)

/-! ### The claim window (09, 10) -/

theorem Bounded.answer (h : Bounded a i s) (st : Status) (d : Option Word) : Bounded a i (s.answer n st d) := h

theorem Bounded.cmdLoad (h : Bounded a i s) : Bounded a i (s.cmdLoad n) := by
  unfold State.cmdLoad
  split
  · split
    · exact h.enterLoading
    · exact h.failLoad .reel
  · split
    · exact h.enterLoading
    · exact (h.failLoad .reel).retime
  all_goals exact h

theorem Bounded.cmdClose (h : Bounded a i s) : Bounded a i (s.cmdClose n) := by
  unfold State.cmdClose
  split
  · next hlot =>
    have hleft : Bounded a i s.leaveOpen := h.leaveOpen
    have himage : s.leaveOpen.lot.image.isSome = true := by
      rw [State.leaveOpen_lot]
      exact h.held (by rw [hlot]; rfl)
    generalize s.leaveOpen = u at hleft himage ⊢
    have hdraining : Bounded a i { u with lot := { u.lot with state := .draining } } := hleft.setLot rfl fun _ => himage
    exact Bounded.finish (s := State.answer _ n .ok) hdraining
  · exact h

theorem Bounded.withSiteArg (h : Bounded a i s) (arg : Byte) {f : Site → State} (hf : ∀ m, Bounded a i (f m)) :
    Bounded a i (s.withSiteArg n arg f) := by
  unfold State.withSiteArg
  split
  · split
    · exact hf _
    · exact h
  · exact h

theorem Bounded.releaseSite (h : Bounded a i s) (m : Site) : Bounded a i (s.releaseSite n m) := by
  unfold State.releaseSite
  generalize s.sites[m].state = state
  cases state
  case ready =>
    dsimp only
    split
    · exact Bounded.finish (s := (s.dropHeld m .refused).answer n .ok) (h.dropHeld .refused)
    · exact h
  case staging =>
    exact Bounded.finish (s := (s.endStaging m .release .finished .ready).answer n .ok)
      (h.endStaging .release (by decide) (by decide))
  case blanked | fault => exact h.setSite_calm (n := m) rfl (by simp) (by simp)
  case armed | programmed =>
    exact Bounded.finish (s := (s.spoil m .release .finished).answer n .ok) (h.spoil .release (by decide) (by decide))
  all_goals exact h

theorem Bounded.cmdMask (h : Bounded a i s) (arg : Byte) (on : Bool) : Bounded a i (s.cmdMask n arg on) := by
  unfold State.cmdMask
  split
  · split <;> exact h
  · exact h

theorem Bounded.cmdClearChecked (h : Bounded a i s) (arg : Byte) : Bounded a i (s.cmdClearChecked n arg) := by
  refine h.withSiteArg arg fun m => ?_
  split <;> exact h

theorem Bounded.leaveService (h : Bounded a i s) (src : Source) : Bounded a i (s.leaveService src) := by
  unfold State.leaveService
  dsimp only
  split <;> exact h

theorem Bounded.takeAlert (h : Bounded a i s) : Bounded a i (s.takeAlert n) := by
  unfold State.takeAlert
  split
  · exact h
  · next src _ =>
    dsimp only
    split
    · refine Bounded.answer (Bounded.leaveService ?_ src) .ok _
      exact h
    · exact h

theorem Bounded.endAlert (h : Bounded a i s) : Bounded a i (s.endAlert n) := by
  unfold State.endAlert
  split
  · exact h
  · next src _ => exact h.leaveService src

theorem Bounded.endAlertOf (h : Bounded a i s) (src : Source) : Bounded a i (s.endAlertOf n src) := by
  unfold State.endAlertOf
  split
  · exact h.leaveService src
  · exact h

theorem Bounded.selectView (h : Bounded a i s) (page : BitVec 4) (index : Byte) :
    Bounded a i (s.selectView n page index) := by
  unfold State.selectView
  split
  · split <;> exact h
  · exact h

theorem Bounded.latchTallies (h : Bounded a i s) : Bounded a i (s.latchTallies n) := by
  unfold State.latchTallies
  split <;> exact h

theorem Bounded.readTally (h : Bounded a i s) (t : Tally) : Bounded a i (s.readTally n t) := by
  unfold State.readTally
  dsimp only
  split
  · exact h
  · split <;> exact h

theorem Bounded.commandWrite (h : Bounded a i s) (data : Word) : Bounded a i (s.commandWrite n data) := by
  unfold State.commandWrite
  dsimp only
  split
  · exact h.cmdLoad
  · exact h.cmdClose
  · exact h.withSiteArg _ fun m => h.releaseSite m
  · exact h.withSiteArg _ fun _ => h
  · exact h.cmdMask _ _
  · exact h.cmdClearChecked _
  · exact h.withSiteArg _ fun _ => h
  · exact h

theorem Bounded.alertEndWrite (h : Bounded a i s) (data : Word) : Bounded a i (s.alertEndWrite n data) := by
  unfold State.alertEndWrite
  split
  · exact h.endAlertOf _
  · exact h.endAlert

/-- A READ of ALERT TAKE or of a tally word changes the part, and none of the sixteen changes a site or a lane. -/
theorem Bounded.claimRead (h : Bounded a i s) (word : Fin 16) : Bounded a i (s.claimRead n word) := by
  unfold State.claimRead
  split
  case h_4 => exact h.takeAlert
  case h_11 | h_12 | h_13 | h_14 | h_15 => exact h.readTally _
  all_goals exact h

theorem Bounded.claimWrite (h : Bounded a i s) (word : Fin 16) (data : Word) :
    Bounded a i (s.claimWrite n word data) := by
  unfold State.claimWrite
  split
  · exact h.commandWrite data
  · exact h.alertEndWrite data
  · exact h
  · exact h
  · exact h.selectView _ _
  · exact h.latchTallies
  · exact h

theorem Bounded.busy (h : Bounded a i s) : Bounded a i (s.busy n) := h

theorem Bounded.onIdleLane (h : Bounded a i s) {u : State} (hu : Bounded a i u) : Bounded a i (s.onIdleLane n u) := by
  unfold State.onIdleLane
  split
  · exact hu
  · exact h.busy

/-! ### The lanes' rows (01) -/

theorem Bounded.byLot (h : Bounded a i s) (k : Kind) (x d : Address) (data : Word) :
    Bounded a i (s.byLot n k x d data) := by
  unfold State.byLot
  split
  · exact h.forward _ (.inr rfl)
  · exact h
  all_goals exact h.byRole rfl data

theorem Bounded.request (h : Bounded a i s) (k : Kind) (x : Address) (data : Word) :
    Bounded a i (s.request n k x data) := by
  unfold State.request
  split
  · unfold State.classify
    dsimp only
    split
    · exact h
    · split
      · split
        · exact h.claimRead _
        · exact h.claimWrite _ data
      · split
        · exact h.byLot k _ _ data
        · exact h
  · exact h.busy

theorem Bounded.endTransaction (h : Bounded a i s) {t : Transaction} (ht : s.lanes[n].transaction = some t)
    (st : Status) (data : Word) : Bounded a i (s.endTransaction n t st data) := by
  unfold State.endTransaction
  split
  · exact h.outcome_setLane (l := Lane.idle) ht _ rfl fun _ => limitAt_stopped
  · exact Bounded.setLane_idle (s := s.answer n st _) h

/-! ### The reel's rows (03) -/

theorem Bounded.imageArrived (h : Bounded a i s) (bytes : Vector Byte 128) (tagPasses : Bool) :
    Bounded a i (s.imageArrived bytes tagPasses) := by
  unfold State.imageArrived
  split
  · split
    · next im him => exact (bounded_lotOpen s ((parseImage_iff bytes im).1 him).2.2).finish
    · exact h.freePort.failLoad .format
  · exact h.freePort.failLoad .tag

theorem Bounded.closeLot (h : Bounded a i s) (hlot : s.lot.state = .draining) : Bounded a i s.closeLot :=
  h.setLot rfl fun _ => h.held (by rw [hlot]; rfl)

theorem Bounded.pageStored (h : Bounded a i s) : Bounded a i s.pageStored := by
  unfold State.pageStored
  split
  · next hclose => exact Bounded.finish (Bounded.closeLot (s := s.confirmPage) h hclose.2)
  · exact Bounded.finish (s := s.confirmPage) h

theorem Bounded.pageFailed (h : Bounded a i s) : Bounded a i s.pageFailed := by
  unfold State.pageFailed
  split
  · exact h
  · exact (h.freePort.halt .appendFail).finish

theorem Bounded.recordArrived (h : Bounded a i s) (bytes : Vector Byte 62) : Bounded a i (s.recordArrived bytes) :=
  Bounded.finish (s := { s.freePort with supply := _ }) h

theorem Bounded.reelEnded (h : Bounded a i s) : Bounded a i s.reelEnded :=
  Bounded.finish (s := { s.freePort.endDraw with supply := _ }) h.freePort.endDraw

theorem Bounded.takeAnswer (h : Bounded a i s) (tagPasses : Bool) (answer : ReelAnswer) :
    Bounded a i (s.takeAnswer tagPasses answer) := by
  cases answer with
  | image bytes => exact h.imageArrived bytes tagPasses
  | absent => exact h.freePort.failLoad .absent
  | record bytes => exact h.recordArrived bytes
  | endOfReel => exact h.reelEnded
  | appendOk => exact h.pageStored
  | appendFail => exact h.pageFailed
  | appendFull => exact (h.freePort.halt .logSpace).finish

theorem Bounded.reelRemoval (h : Bounded a i s) : Bounded a i s.reelRemoval := by
  unfold State.reelRemoval
  split
  · exact h
  · exact h.freePort.failLoad .reel
  · exact (h.halt .reelLost).finish
  · exact (h.halt .reelLost).finish
  · exact Bounded.retime (h.setLot rfl fun hforce => nomatch hforce)
  · exact h

theorem Bounded.reelArrival (h : Bounded a i s) : Bounded a i s.reelArrival := by
  unfold State.reelArrival
  split
  · exact h.enterLoading
  all_goals exact h

theorem Bounded.acceptKey (h : Bounded a i s) (e : KeyEntry) : Bounded a i (s.acceptKey e) := by
  refine Bounded.deliver (Bounded.endDraw ?_) e false
  exact h

theorem Bounded.spoilUnused (h : Bounded a i s) : Bounded a i s.spoilUnused := by
  unfold State.spoilUnused
  split <;> exact h

/-- Reset holds no image, and no site has had an attempt (R22). -/
theorem bounded_resetBy (s : State) (c : ResetCause) : Bounded a i (s.resetBy c) := by
  refine ⟨fun hforce => (nomatch hforce), fun n hn => ?_, fun _ => ⟨Nat.zero_le _, fun _ him => nomatch him⟩,
    fun _ n => ?_, fun _ _ him => (nomatch him), fun _ n => ?_⟩
  · have hnone : (s.resetBy c).pool.waiting = Vector.replicate 8 false := rfl
    rw [hnone, perSite_replicate] at hn
    cases hn
  · have hsites : (s.resetBy c).sites = Vector.replicate 8 SiteContext.default := rfl
    rw [hsites, perSite_replicate]
    exact .of_calm (Nat.zero_le _) (by decide) (by decide)
  · have hlanes : (s.resetBy c).lanes = Vector.replicate 8 Lane.idle := rfl
    rw [hlanes, perSite_replicate]
    exact limitAt_stopped

/-! ### Every row, every step -/

/-- The state that a row goes to. -/
theorem bounded_of_next {u v : State} (hu : (.next v : Host.Outcome State Fault Refusal) = .next u)
    (h : Bounded a i v) : Bounded a i u := by
  cases hu
  exact h

theorem Bounded.dieResponse (h : Bounded a i s) (statusByte : Byte) (data : List Byte) {u : State}
    (hu : exec (.dieResponse n statusByte data) s = .next u) : Bounded a i u := by
  refine bounded_of_next hu ?_
  split
  · split
    · next t ht => exact h.endTransaction ht _ _
    · exact h.setLane_idle
  · exact Bounded.setLane_idle (s := s.raiseExc n .late) h
  · exact h
  · exact h

theorem Bounded.contactFall (h : Bounded a i s) {u : State} (hu : exec (.contactFall n) s = .next u) :
    Bounded a i u := by
  refine bounded_of_next hu ?_
  split
  · exact h
  · exact h
  · exact Bounded.siteLoss (Bounded.laneLoss (s := s.setTimers n _) h)

theorem Bounded.reelPresentFall (h : Bounded a i s) {u : State} (hu : exec .reelPresentFall s = .next u) :
    Bounded a i u := by
  refine bounded_of_next hu ?_
  split
  · exact h
  · exact h
  · exact Bounded.reelRemoval (s := { s with supply := _ }) h

theorem Bounded.imageAnswer (h : Bounded a i s) (answer : ImageAnswer) {u : State}
    (hu : exec (.imageAnswer answer) s = .next u) : Bounded a i u := by
  refine bounded_of_next hu (h.ite ?_)
  split <;> exact h.takeAnswer _ _

theorem Bounded.fetchAnswer (h : Bounded a i s) (answer : FetchAnswer) {u : State}
    (hu : exec (.fetchAnswer answer) s = .next u) : Bounded a i u := by
  refine bounded_of_next hu (h.ite ?_)
  split <;> exact h.takeAnswer _ _

theorem Bounded.unwrapCompletion (h : Bounded a i s) (r : UnwrapResult) {u : State}
    (hu : exec (.unwrapCompletion r) s = .next u) : Bounded a i u := by
  refine bounded_of_next hu ?_
  split
  · exact h
  · next k _ =>
    split
    · exact Bounded.finish (s := s.rejectKey k.serial .tag) h
    · split
      · exact Bounded.finish (s := s.rejectKey k.serial .order) h
      · exact (h.acceptKey _).finish

theorem Bounded.reelSilent (h : Bounded a i s) {u : State} (hu : exec .reelSilent s = .next u) : Bounded a i u := by
  refine bounded_of_next hu ?_
  split
  · exact h
  · exact h.freePort.failLoad .reel
  · exact (h.freePort.halt .reelSilent).finish
  · exact (h.freePort.halt .reelSilent).finish

theorem Bounded.discardedReelAnswer (h : Bounded a i s) (b : ReelBytes) {u : State}
    (hu : exec (.discardedReelAnswer b) s = .next u) : Bounded a i u := by
  refine bounded_of_next hu (h.ite ?_)
  split
  · exact h.takeAnswer _ _
  · exact h

theorem Bounded.exec_next (h : Bounded a i s) (c : Instr) {u : State} (hu : exec c s = .next u) : Bounded a i u := by
  cases c with
  | dalRequest n kindByte address data => exact bounded_of_next hu (h.request _ _ _)
  | dieResponse n statusByte data => exact h.dieResponse statusByte data hu
  | responseTimerExpiry n =>
    exact bounded_of_next hu (h.ite_of fun hlast => h.responseExpired (isRunning_of_lastTick hlast.2))
  | quietTimerExpiry n => exact bounded_of_next hu (h.ite h.quietExpired)
  | tick => exact bounded_of_next hu h.tick
  | contactRise n => exact bounded_of_next hu (h.ite h)
  | contactDebounceComplete n => exact bounded_of_next hu (h.ite h.establish)
  | contactFall n => exact h.contactFall hu
  | keyWaitExpiry n => exact bounded_of_next hu (h.ite h.keyWaitExpired)
  | dwellExpiry n => exact bounded_of_next hu (h.ite h.dwellExpired)
  | programWatchdogExpiry n => exact bounded_of_next hu (h.ite h.watchdogExpired)
  | reelPresentRise => exact bounded_of_next hu (h.ite h)
  | reelDebounceEnd => exact bounded_of_next hu (h.ite (Bounded.reelArrival (s := { s with supply := _ }) h))
  | reelPresentFall => exact h.reelPresentFall hu
  | imageAnswer answer => exact h.imageAnswer answer hu
  | fetchStart => exact bounded_of_next hu (h.ite (Bounded.finish (s := s.startFetch) h))
  | fetchAnswer answer => exact h.fetchAnswer answer hu
  | unwrapCompletion r => exact h.unwrapCompletion r hu
  | appendStart => exact bounded_of_next hu (h.ite (Bounded.finish (s := s.startAppend) h))
  | appendOk => exact bounded_of_next hu (h.ite (h.takeAnswer _ _))
  | appendFail => exact bounded_of_next hu (h.ite (h.takeAnswer _ _))
  | appendFull => exact bounded_of_next hu (h.ite (h.takeAnswer _ _))
  | reelSilent => exact h.reelSilent hu
  | discardedReelAnswer b => exact h.discardedReelAnswer b hu
  | unusedSpoil => exact bounded_of_next hu (h.ite h.spoilUnused.finish)
  | closeRecord => exact bounded_of_next hu (h.ite (Bounded.finish (s := s.queueClose) h))
  | load n => exact bounded_of_next hu (h.onIdleLane h.cmdLoad)
  | close n => exact bounded_of_next hu (h.onIdleLane h.cmdClose)
  | release n arg => exact bounded_of_next hu (h.onIdleLane (h.withSiteArg arg fun m => h.releaseSite m))
  | lowest n arg => exact bounded_of_next hu (h.onIdleLane (h.withSiteArg arg fun _ => h))
  | mask n arg on => exact bounded_of_next hu (h.onIdleLane (h.cmdMask arg on))
  | clearChecked n arg => exact bounded_of_next hu (h.onIdleLane (h.cmdClearChecked arg))
  | clearUnchecked n arg => exact bounded_of_next hu (h.onIdleLane (h.withSiteArg arg fun _ => h))
  | alertTake n => exact bounded_of_next hu (h.onIdleLane h.takeAlert)
  | alertEndNonSpecific n => exact bounded_of_next hu (h.onIdleLane h.endAlert)
  | alertEndSpecific n source => exact bounded_of_next hu (h.onIdleLane (h.endAlertOf _))
  | alertMask n data => exact bounded_of_next hu (h.onIdleLane h)
  | exceptionMask n data => exact bounded_of_next hu (h.onIdleLane h)
  | viewSelect n page index => exact bounded_of_next hu (h.onIdleLane (h.selectView page index))
  | viewData n => exact bounded_of_next hu (h.onIdleLane h)
  | tallyLatch n => exact bounded_of_next hu (h.onIdleLane h.latchTallies)
  | tally n which => exact bounded_of_next hu (h.onIdleLane (h.readTally which))
  | claimWordWrite n word data => exact bounded_of_next hu (h.onIdleLane (h.claimWrite word data))
  | powerOn => exact bounded_of_next hu (bounded_resetBy s .power)
  | resetLine => exact bounded_of_next hu (bounded_resetBy s .line)

theorem Bounded.step_next (h : Bounded a i s) {u : State} (hu : step s = .next u) : Bounded a i u := by
  unfold step at hu
  split at hu
  · exact bounded_of_next hu h
  · next c rest _ => exact Bounded.exec_next (s := { s with pending := rest }) h c hu

/-! ### The invariants of a coherent state -/

/-- A site waits in OPEN alone (R34), where an image is in force and so is held (R24). -/
theorem image_isSome_of_waiting (h : s.Coherent) (hn : s.pool.waiting[n] = true) : s.lot.image.isSome = true := by
  obtain ⟨-, -, hheld, -, -, -, hopened | hnone, -⟩ := h.lot
  · exact hheld (by rw [hopened]; rfl)
  · have hempty := List.countP_eq_zero.1 hnone true (by rw [← hn]; simp)
    exact absurd rfl hempty

/-- What a coherent state brings to the invariants, and what the asked one adds. -/
theorem bounded_of_coherent (h : s.Coherent) (ha : a → s.AttemptsOk) (hi : i → s.ImageOk) : Bounded a i s where
  held := h.lot.2.2.1
  waits _ hn := image_isSome_of_waiting h hn
  retry hasked := ⟨(ha hasked).1, (ha hasked).2.1⟩
  attempts hasked n :=
    have ⟨hwithin, hstaging, hinFlight⟩ := (ha hasked).2.2 n
    ⟨hwithin, hstaging, hinFlight⟩
  images hasked := (hi hasked).1
  limits hasked := (hi hasked).2

theorem Bounded.attemptsOk (h : Bounded True i s) : s.AttemptsOk :=
  ⟨(h.retry trivial).1, (h.retry trivial).2, fun n =>
    have ⟨hwithin, hstaging, hinFlight⟩ := h.attempts trivial n
    ⟨hwithin, hstaging, hinFlight⟩⟩

theorem Bounded.imageOk (h : Bounded a True s) : s.ImageOk := ⟨h.images trivial, h.limits trivial⟩

/-- Settles O56: each invariant is `Bounded` with that one asked, which every step keeps. -/
theorem stepKeepsAttemptsAndImage : Obligations.StepKeepsAttemptsAndImage := by
  intro s u hcoherent hstep
  constructor
  · intro hattempts
    have h : Bounded True False s := bounded_of_coherent hcoherent (fun _ => hattempts) False.elim
    exact (h.step_next hstep).attemptsOk
  · intro himage
    have h : Bounded False True s := bounded_of_coherent hcoherent False.elim fun _ => himage
    exact (h.step_next hstep).imageOk

end Sys2Proof.Machine.LotStates
end

section
/-! The reel port and the supply engine: the arbiter, what the end of an event leaves settled, the reel's answers, and the
unwrap unit. -/

namespace Sys2Proof.Machine.ReelSupply

open LotStates

/-! ## The arbiter (R52, R58, R59, R60) -/

/-- A FETCH is wanted exactly under the seven conditions of R52. -/
theorem fetchWanted_iff (s : State) :
    s.fetchWanted = true ↔
      s.lot.state = .opened ∧ s.supply.exhausted = false ∧ s.tallies.fetched + s.draws < s.image.ceiling ∧
      s.supply.unwrap = none ∧ s.log.records.length + s.log.reservations < 16 ∧
      s.pool.deque.length + s.bindings + s.draws < 32 ∧
      (s.pool.deque.length + s.draws ≤ s.image.refillLevel ∨ ∃ n : Site, s.pool.waiting[n] = true) := by
  simp only [State.fetchWanted, State.canLend, Bool.and_eq_true, Bool.or_eq_true, Bool.not_eq_true', beq_iff_eq,
    decide_eq_true_eq, Option.isNone_iff_eq_none, anyWaiting_iff, and_assoc]

/-- An APPEND is wanted exactly where an active lot holds a record (R58). -/
theorem appendWanted_iff (s : State) :
    s.appendWanted = true ↔ (s.lot.state = .opened ∨ s.lot.state = .draining) ∧ 1 ≤ s.log.records.length := by
  simp only [State.appendWanted, Bool.and_eq_true, Bool.or_eq_true, beq_iff_eq, Bool.not_eq_true',
    List.isEmpty_eq_false_iff, Nat.one_le_iff_ne_zero, ne_eq, List.length_eq_zero_iff]

theorem fetchWanted_of_ne_opened {s : State} (h : s.lot.state ≠ .opened) : s.fetchWanted = false := by
  simp [State.fetchWanted, h]

theorem appendWanted_of_inactive {s : State} (h1 : s.lot.state ≠ .opened) (h2 : s.lot.state ≠ .draining) :
    s.appendWanted = false := by
  simp [State.appendWanted, h1, h2]

/-- A port that carries an operation is granted to nothing (R58). -/
theorem grant_of_busy {s : State} (h : s.supply.port ≠ .free) : s.grant = .free := by
  simp [State.grant, h]

theorem grant_of_unwanted {s : State} (hf : s.fetchWanted = false) (ha : s.appendWanted = false) : s.grant = .free := by
  simp [State.grant, hf, ha]

/-- R59: a FETCH goes first while fewer than four records are held, or while no APPEND is wanted. -/
theorem grant_fetch {s : State} (hport : s.supply.port = .free) (hf : s.fetchWanted = true)
    (ha : s.appendWanted = false ∨ s.log.records.length ≤ 3) : s.grant = .fetch := by
  have hlow : (s.appendWanted && decide (4 ≤ s.log.records.length)) = false := by
    rw [Bool.and_eq_false_iff, decide_eq_false_iff_not]
    exact ha.imp_right (by omega)
  simp [State.grant, hport, hf, hlow]

/-- R59: an APPEND goes first from four records on, or while no FETCH is wanted. -/
theorem grant_append {s : State} (hport : s.supply.port = .free) (ha : s.appendWanted = true)
    (hf : s.fetchWanted = false ∨ 4 ≤ s.log.records.length) : s.grant = .append := by
  have hfour : s.fetchWanted = true → 4 ≤ s.log.records.length := fun h => hf.resolve_left (by simp [h])
  simpa [State.grant, hport, ha] using hfour

theorem arbitrate_of_grant_free {s : State} (h : s.grant = .free) : s.arbitrate = s := by
  simp only [State.arbitrate, h]

theorem arbitrate_of_grant_fetch {s : State} (h : s.grant = .fetch) : s.arbitrate = s.startFetch := by
  simp only [State.arbitrate, h]

theorem arbitrate_of_grant_append {s : State} (h : s.grant = .append) : s.arbitrate = s.startAppend := by
  simp only [State.arbitrate, h]

/-- FETCH_START where FETCH stands to be granted is the arbiter's start. -/
theorem exec_fetchStart_granted {s : State} (h : s.grant = .fetch) :
    exec .fetchStart s = .next s.arbitrate.finish := by
  rw [arbitrate_of_grant_fetch h]
  simp only [exec, execFetchStart, if_pos h]

/-- APPEND_START where APPEND stands to be granted is the arbiter's start. -/
theorem exec_appendStart_granted {s : State} (h : s.grant = .append) :
    exec .appendStart s = .next s.arbitrate.finish := by
  rw [arbitrate_of_grant_append h]
  simp only [exec, execAppendStart, if_pos h]

/-- Settles O34: what is wanted, and the start by what the table of R59 grants. -/
theorem arbiterGrantsAndStarts : Obligations.ArbiterGrantsAndStarts := by
  refine ⟨fun s => ⟨fetchWanted_iff s, appendWanted_iff s, fun hbusy => ?_, fun hport => ⟨fun hf ha => ?_,
    fun hf ha => ?_, fun ha hf => ?_⟩⟩, fun s hport => ⟨fun hf ha => ?_, fun ha hf => ?_⟩⟩
  · exact arbitrate_of_grant_free (grant_of_busy hbusy)
  · exact arbitrate_of_grant_free (grant_of_unwanted hf ha)
  · exact arbitrate_of_grant_fetch (grant_fetch hport hf ha)
  · exact arbitrate_of_grant_append (grant_append hport ha hf)
  · exact exec_fetchStart_granted (grant_fetch hport hf ha)
  · exact exec_appendStart_granted (grant_append hport ha hf)

/-! ## The end of an event (R37, R38, R58, R79, R146, R151, R154, R158) -/

/-- The arbiter has nothing left to start: at a FREE port nothing is wanted (R58). -/
def PortSettled (s : State) : Prop := s.supply.port = .free → s.fetchWanted = false ∧ s.appendWanted = false

/-- What the arbiter starts occupies the port, so that after an examination it has nothing left to start. -/
theorem portSettled_arbitrate (s : State) : PortSettled s.arbitrate := by
  intro hport
  rcases arbitrate_cases s with ⟨e, h⟩ | ⟨e, -⟩ | ⟨e, -⟩ <;> rw [e] at hport ⊢
  · exact h hport
  · cases hport
  · cases hport

theorem portSettled_ownEvent {s : State} (h : PortSettled s) : PortSettled s.ownEvent := by
  rcases ownEvent_cases s with ⟨e, -⟩ | ⟨e, -⟩ | ⟨e, -⟩ <;> rw [e]
  · exact portSettled_arbitrate _
  · exact portSettled_arbitrate _
  · exact h

/-- How many turns the lot controller can still take in DRAINING: one for each key of the pool, and one for the CLOSE
record that is not yet queued. -/
def turnsLeft (s : State) : Nat := s.pool.deque.length + if s.lot.closeQueued then 0 else 1

theorem arbitrate_deque (s : State) : s.arbitrate.pool.deque = s.pool.deque := by
  rcases arbitrate_cases s with ⟨e, -⟩ | ⟨e, -⟩ | ⟨e, -⟩ <;> rw [e] <;> rfl

theorem turnsLeft_arbitrate (s : State) : turnsLeft s.arbitrate = turnsLeft s := by
  rw [turnsLeft, turnsLeft, arbitrate_deque, arbitrate_lot]

/-- A turn taken is one turn less. -/
theorem turnsLeft_spoilUnused {s : State} (h : s.unusedDue = true) : turnsLeft s.spoilUnused + 1 = turnsLeft s := by
  obtain ⟨-, -, kept, e, hdeque⟩ := unusedDue_back h
  rw [spoilUnused_eq hdeque, turnsLeft, turnsLeft, hdeque, List.length_append, List.length_singleton]
  dsimp only
  omega

theorem turnsLeft_queueClose {s : State} (h : s.closeDue = true) : turnsLeft s.queueClose + 1 = turnsLeft s := by
  obtain ⟨-, -, hqueued, -⟩ := (closeDue_iff s).1 h
  rw [queueClose_eq, turnsLeft, turnsLeft, hqueued]
  rfl

/-- After as many turns as are left the lot controller has nothing left to start. -/
theorem cascade_nothing_due (k : Nat) (s : State) (hk : turnsLeft s ≤ k) :
    (cascade k s).unusedDue = false ∧ (cascade k s).closeDue = false := by
  induction k generalizing s with
  | zero =>
    have hdeque : s.pool.deque = [] := List.length_eq_zero_iff.1 (by unfold turnsLeft at hk; omega)
    have hqueued : s.lot.closeQueued = true := by
      by_contra hq
      rw [turnsLeft, if_neg hq] at hk
      omega
    exact ⟨by simp [cascade, State.unusedDue, hdeque], by simp [cascade, State.closeDue, hqueued]⟩
  | succ k ih =>
    rcases ownEvent_cases s with ⟨e, hdue⟩ | ⟨e, -, hdue⟩ | ⟨-, hu, hc⟩
    · refine ih _ ?_
      have := turnsLeft_spoilUnused hdue
      rw [e, turnsLeft_arbitrate]
      omega
    · refine ih _ ?_
      have := turnsLeft_queueClose hdue
      rw [e, turnsLeft_arbitrate]
      omega
    · rw [cascade_of_not_due hu hc]
      exact ⟨hu, hc⟩

theorem turnsLeft_le (s : State) : turnsLeft s ≤ s.pool.deque.length + 1 := by
  unfold turnsLeft
  split <;> omega

/-- The end of an event leaves nothing that starts in its cause's event (R58, R146, R151). -/
theorem settled_finish (s : State) : s.finish.Settled := by
  have hturns : turnsLeft s.arbitrate ≤ s.pool.deque.length + 1 := by
    rw [← arbitrate_deque]
    exact turnsLeft_le _
  have hport : PortSettled (cascade (s.pool.deque.length + 1) s.arbitrate) :=
    cascade_induct (P := PortSettled) (fun _ => portSettled_ownEvent) _ _ (portSettled_arbitrate s)
  obtain ⟨hunused, hclose⟩ := cascade_nothing_due _ s.arbitrate hturns
  rw [State.finish]
  generalize cascade (s.pool.deque.length + 1) s.arbitrate = u at hport hunused hclose ⊢
  exact ⟨hport, hunused, hclose⟩

/-- One latch set, the others as they were. -/
theorem requested_setLatch (a : AlertController) (src x : Source) (v : Bool) :
    (a.setLatch src v).requested x = if x = src then v else a.requested x := by
  rw [AlertController.requested, AlertController.setLatch, perSite_set]
  by_cases hx : x = src
  · rw [if_pos hx, if_pos (congrArg _ hx)]
  · rw [if_neg hx, if_neg (fun hp => hx (priority_injective _ _ hp))]
    rfl

/-- Of a source not in service, the latch is the condition once it is followed, and stays while others are. -/
theorem requested_follow {a : AlertController} {x : Source} (hx : x ∉ a.inService) (src : Source) (holds : Bool) :
    (a.follow src holds).requested x = if x = src then holds else a.requested x := by
  unfold AlertController.follow
  by_cases hsrc : src ∈ a.inService
  · have hne : x ≠ src := fun e => hx (e ▸ hsrc)
    rw [if_pos hsrc, if_neg hne]
  · rw [if_neg hsrc]
    exact requested_setLatch a src x holds

/-- The condition report leaves every latch of a condition source that is not in service at its condition (R158). -/
theorem latchesFollow_reportConditions (s : State) : s.reportConditions.LatchesFollow := by
  intro src _ hcondition hservice
  rw [State.reportConditions_inService] at hservice
  rw [condition_congr (State.reportConditions_lot s) (State.reportConditions_log s) (State.reportConditions_pool s)]
  unfold State.reportConditions
  dsimp only
  rw [requested_follow (by simpa using hservice), requested_follow (by simpa using hservice),
    requested_follow hservice]
  cases src
  case halt | logFull | poolLow => rfl
  all_goals cases hcondition

/-- Settles O43. -/
theorem finishSettlesThePort : Obligations.FinishSettlesThePort := fun s =>
  ⟨settled_finish s, latchesFollow_reportConditions _⟩

/-! ## Reel answers by their bytes (R46, R192) -/

/-- An answer byte is listed for the command on the port (R192). -/
def Listed (port : PortState) (code : Byte) : Prop :=
  (port = .image ∧ (code = 0x00 ∨ code = 0x01)) ∨ (port = .fetch ∧ (code = 0x00 ∨ code = 0x02)) ∨
    (port = .append ∧ (code = 0x00 ∨ code = 0x03 ∨ code = 0x04))

/-- Bytes are an answer only by an answer byte that is listed for the command on the port. -/
theorem ofBytes_of_not_listed {port : PortState} {code : Byte} (h : ¬ Listed port code) (rest : List Byte) :
    ReelAnswer.ofBytes port (code :: rest) = none := by
  have hcode : ∀ k : Byte, code.toNat = k.toNat → code = k := fun _ => BitVec.eq_of_toNat_eq
  unfold ReelAnswer.ofBytes
  dsimp only
  split
  next hk => exact absurd (.inl ⟨rfl, .inl (hcode 0x00 hk)⟩) h
  next hk => exact absurd (.inl ⟨rfl, .inr (hcode 0x01 hk)⟩) h
  next hk => exact absurd (.inr (.inl ⟨rfl, .inl (hcode 0x00 hk)⟩)) h
  next hk => exact absurd (.inr (.inl ⟨rfl, .inr (hcode 0x02 hk)⟩)) h
  next hk => exact absurd (.inr (.inr ⟨rfl, .inl (hcode 0x00 hk)⟩)) h
  next hk => exact absurd (.inr (.inr ⟨rfl, .inr (.inl (hcode 0x03 hk))⟩)) h
  next hk => exact absurd (.inr (.inr ⟨rfl, .inr (.inr (hcode 0x04 hk))⟩)) h
  next => rfl

/-- At a FREE port no bytes are an answer. -/
theorem ofBytes_free (bytes : List Byte) : ReelAnswer.ofBytes .free bytes = none := by
  cases bytes with
  | nil => rfl
  | cons code rest => exact ofBytes_of_not_listed (by simp [Listed]) rest

theorem ofBytes_image (image : Vector Byte 128) :
    ReelAnswer.ofBytes .image (0x00 :: image.toList) = some (.image image) := by
  show (block 128 image.toList).map ReelAnswer.image = _
  rw [block_toList]
  rfl

theorem ofBytes_record (record : Vector Byte 62) :
    ReelAnswer.ofBytes .fetch (0x00 :: record.toList) = some (.record record) := by
  show (block 62 record.toList).map ReelAnswer.record = _
  rw [block_toList]
  rfl

/-- Bytes outside the transfer of the operation on the port are discarded. -/
theorem exec_reelBytes_outside (s : State) (bytes : List Byte) (tag : Bool) :
    exec (.discardedReelAnswer ⟨bytes, false, tag⟩) s = .next s := rfl

/-- Bytes that are no answer to the command on the port are discarded. -/
theorem exec_reelBytes_unlisted {s : State} {bytes : List Byte}
    (h : ReelAnswer.ofBytes s.supply.port bytes = none) (inTransfer tag : Bool) :
    exec (.discardedReelAnswer ⟨bytes, inTransfer, tag⟩) s = .next s := by
  cases inTransfer with
  | false => exact exec_reelBytes_outside s bytes tag
  | true => simp only [exec, execDiscardedReelAnswer, h, if_true]

/-- Bytes that are an answer to the command on the port, within its transfer, are taken as that answer. -/
theorem exec_reelBytes_listed {s : State} {bytes : List Byte} {answer : ReelAnswer}
    (h : ReelAnswer.ofBytes s.supply.port bytes = some answer) (tag : Bool) :
    exec (.discardedReelAnswer ⟨bytes, true, tag⟩) s = .next (s.takeAnswer tag answer) := by
  simp only [exec, execDiscardedReelAnswer, h, if_true]

/-- An answer to IMAGE at a port that carries another operation, or none, is discarded. -/
theorem exec_imageAnswer_discarded {s : State} (h : s.supply.port ≠ .image) (answer : ImageAnswer) :
    exec (.imageAnswer answer) s = .next s := by
  simp only [exec, execImageAnswer, if_neg h]

theorem exec_fetchAnswer_discarded {s : State} (h : s.supply.port ≠ .fetch) (answer : FetchAnswer) :
    exec (.fetchAnswer answer) s = .next s := by
  simp only [exec, execFetchAnswer, if_neg h]

theorem exec_appendAnswers_discarded {s : State} (h : s.supply.port ≠ .append) :
    exec .appendOk s = .next s ∧ exec .appendFail s = .next s ∧ exec .appendFull s = .next s := by
  simp only [exec, execAppendOk, execAppendFail, execAppendFull, if_neg h, and_self]

theorem exec_fetchAnswer_record {s : State} (h : s.supply.port = .fetch) (bytes : Vector Byte 62) :
    exec (.fetchAnswer (.record bytes)) s = .next (s.recordArrived bytes) := by
  simp only [exec, execFetchAnswer, if_pos h, State.takeAnswer]

theorem exec_fetchAnswer_end {s : State} (h : s.supply.port = .fetch) :
    exec (.fetchAnswer .endOfReel) s = .next s.reelEnded := by
  simp only [exec, execFetchAnswer, if_pos h, State.takeAnswer]

theorem exec_appendFull_append {s : State} (h : s.supply.port = .append) :
    exec .appendFull s = .next (s.freePort.halt .logSpace).finish := by
  simp only [exec, execAppendFull, if_pos h, State.takeAnswer, State.reelFull]

/-- Settles O7: which bytes spell an answer, and what the row of each answer does with it. -/
theorem reelAnswersByTheirBytes : Obligations.ReelAnswersByTheirBytes := by
  intro s bytes rest code inTransfer tag
  refine ⟨exec_reelBytes_outside s bytes tag, exec_reelBytes_unlisted (by rfl) inTransfer tag, fun hport => ?_,
    fun hcode => exec_reelBytes_unlisted (ofBytes_of_not_listed ?_ rest) inTransfer tag, fun hport => ⟨fun image => ?_, ?_⟩,
    fun hport => ⟨fun record => ?_, ?_⟩, fun hport => ⟨?_, ?_, ?_⟩, exec_imageAnswer_discarded,
    exec_fetchAnswer_discarded, exec_appendAnswers_discarded⟩
  · exact exec_reelBytes_unlisted (by rw [hport]; exact ofBytes_free bytes) inTransfer tag
  · rcases hcode with ⟨hport, hcode⟩ | ⟨hport, hcode⟩ | ⟨hport, hcode⟩ <;> rw [hport, Listed] <;> tauto
  · rw [exec_reelBytes_listed (by rw [hport]; exact ofBytes_image image) tag, exec_imageAnswer_image hport]
    rfl
  · rw [exec_reelBytes_listed (answer := .absent) (by rw [hport]; rfl) tag, exec_imageAnswer_absent hport]
    rfl
  · rw [exec_reelBytes_listed (by rw [hport]; exact ofBytes_record record) tag, exec_fetchAnswer_record hport]
    rfl
  · rw [exec_reelBytes_listed (answer := .endOfReel) (by rw [hport]; rfl) tag, exec_fetchAnswer_end hport]
    rfl
  · rw [exec_reelBytes_listed (answer := .appendOk) (by rw [hport]; rfl) tag, exec_appendOk_append hport]
    rfl
  · rw [exec_reelBytes_listed (answer := .appendFail) (by rw [hport]; rfl) tag, exec_appendFail_append hport]
    rfl
  · rw [exec_reelBytes_listed (answer := .appendFull) (by rw [hport]; rfl) tag, exec_appendFull_append hport]
    rfl

/-! ## Answers to FETCH, and the unwrap unit (R53 to R56, R192) -/

/-- The end of a draw in flight, whole. -/
theorem endDraw_eq {s : State} (h : s.supply.draw ≠ none) :
    s.endDraw =
      { s with
        log := { s.log with reservations := s.log.reservations - 1 }
        supply := { s.supply with draw := none, fetchReservation := false, unwrap := none } } := by
  rw [State.endDraw, if_pos (Option.isSome_iff_ne_none.2 h)]
  rfl

/-- A key record in its 62 bytes: each field is its bytes, most significant first. -/
theorem keyRecord_byte (bytes : Vector Byte 62) (i : Fin 62) :
    bytes[i] =
      if i.val < 6 then (KeyRecord.ofBytes bytes).serial.extractLsb' (8 * (5 - i.val)) 8
      else if i.val < 14 then (KeyRecord.ofBytes bytes).wrappedCheck.extractLsb' (8 * (13 - i.val)) 8
      else if i.val < 46 then (KeyRecord.ofBytes bytes).wrappedKey.extractLsb' (8 * (45 - i.val)) 8
      else (KeyRecord.ofBytes bytes).tag.extractLsb' (8 * (61 - i.val)) 8 := by
  have hlen : bytes.toList.length = 62 := bytes.length_toList
  have hbyte : ∀ {start n k : Nat} (hk : k < n) (hn : start + n ≤ 62) (hi : start + k = i.val),
      (BitVec.ofNat (8 * n) (byteField bytes.toList start n)).extractLsb' (8 * (n - 1 - k)) 8 = bytes[i] := by
    intro start n k hk hn hi
    rw [byteField_byte bytes.toList hk (by omega)]
    simp [hi]
  have hi := i.isLt
  split_ifs with h1 h2 h3
  · exact (hbyte (start := 0) h1 (by omega) (by omega)).symm
  · have h := hbyte (start := 6) (n := 8) (k := i.val - 6) (by omega) (by omega) (by omega)
    rw [← h, show 8 - 1 - (i.val - 6) = 13 - i.val by omega]
    rfl
  · have h := hbyte (start := 14) (n := 32) (k := i.val - 14) (by omega) (by omega) (by omega)
    rw [← h, show 32 - 1 - (i.val - 14) = 45 - i.val by omega]
    rfl
  · have h := hbyte (start := 46) (n := 16) (k := i.val - 46) (by omega) (by omega) (by omega)
    rw [← h, show 16 - 1 - (i.val - 46) = 61 - i.val by omega]
    rfl

/-- Settles O35. -/
theorem fetchAnswers : Obligations.FetchAnswers := by
  intro s bytes
  refine ⟨fun hport => ⟨exec_fetchAnswer_record hport bytes, fun hdraw => ?_⟩,
    fun hport => ⟨exec_fetchAnswer_discarded hport _, exec_fetchAnswer_discarded hport _⟩, keyRecord_byte bytes⟩
  rw [exec_fetchAnswer_end hport, State.reelEnded, endDraw_eq (s := s.freePort) hdraw]
  rfl

/-- A rejection, whole (R55). -/
theorem rejectKey_eq (s : State) (serial : Serial) (reason : RejectReason) :
    s.rejectKey serial reason =
      { s with
        log := ⟨s.log.records ++ [⟨s.log.nextSeq, .reject serial reason⟩], s.log.reservations - 1, s.log.nextSeq + 1⟩
        tallies := s.tallies.raise .rejected
        supply := { s.supply with draw := none, fetchReservation := false, unwrap := none } } := rfl

/-- An acceptance up to the delivery, whole (R56). -/
theorem acceptKey_eq {s : State} (h : s.supply.draw ≠ none) (e : KeyEntry) :
    s.acceptKey e =
      State.deliver
        { s with
          pool := { s.pool with highest := some e.serial }
          tallies := s.tallies.raise .fetched
          log := { s.log with reservations := s.log.reservations - 1 }
          supply := { s.supply with draw := none, fetchReservation := false, unwrap := none } }
        e false := by
  rw [State.acceptKey, endDraw_eq (by exact h)]
  rfl

/-- A serial is out of order exactly at or below the highest accepted one (R55). -/
theorem outOfOrder_iff (s : State) (serial : Serial) :
    s.outOfOrder serial = true ↔ ∃ h, s.pool.highest = some h ∧ serial.toNat ≤ h.toNat := by
  unfold State.outOfOrder
  cases s.pool.highest <;> simp

theorem exec_unwrap_tagFails {s : State} {k : KeyRecord} (h : s.supply.unwrap = some k) :
    exec (.unwrapCompletion .tagFails) s = .next (s.rejectKey k.serial .tag).finish := by
  simp only [exec, execUnwrapCompletion, h]

theorem exec_unwrap_tagPasses {s : State} {k : KeyRecord} (h : s.supply.unwrap = some k) (key : KeyWords)
    (check : CheckWords) :
    exec (.unwrapCompletion (.tagPasses key check)) s =
      .next (if s.outOfOrder k.serial then (s.rejectKey k.serial .order).finish
        else (s.acceptKey ⟨k.serial, key, check⟩).finish) := by
  simp only [exec, execUnwrapCompletion, h]

/-- Settles O36: the tag first, then the serial against the highest accepted one. -/
theorem unwrapCompletion : Obligations.UnwrapCompletion := by
  intro s k key check hunwrap hdraw
  refine ⟨exec_unwrap_tagFails hunwrap, fun h hhighest hle => ?_, fun habove => ?_⟩
  · have horder : s.outOfOrder k.serial = true := (outOfOrder_iff s _).2 ⟨h, hhighest, hle⟩
    rw [exec_unwrap_tagPasses hunwrap, if_pos horder, rejectKey_eq]
  · have horder : ¬ s.outOfOrder k.serial = true := fun h => by
      obtain ⟨h, hhighest, hle⟩ := (outOfOrder_iff s _).1 h
      exact absurd (habove h hhighest) (by omega)
    rw [exec_unwrap_tagPasses hunwrap, if_neg horder, acceptKey_eq hdraw]

/-! ## Halts for the reel (R41, R46, R62, R63) -/

/-- A halt from OPEN or DRAINING, whole but for the held writes (R41, R42). -/
theorem halt_of_active {s : State} (h : s.lot.state = .opened ∨ s.lot.state = .draining) (c : HaltCause) :
    s.halt c =
      { s.leaveOpen.freePort.endDraw with
        lot := { s.leaveOpen.freePort.endDraw.lot with state := .halted, haltCause := c } } := by
  rw [State.halt, if_pos h]

theorem endDraw_supply (s : State) :
    s.endDraw.supply.port = s.supply.port ∧ s.endDraw.supply.timerRunning = s.supply.timerRunning ∧
    s.endDraw.supply.appendFailures = s.supply.appendFailures := by
  unfold State.endDraw
  split <;> exact ⟨rfl, rfl, rfl⟩

theorem endDraw_records (s : State) : s.endDraw.log.records = s.log.records := by
  unfold State.endDraw
  split <;> rfl

theorem endDraw_tallies (s : State) : s.endDraw.tallies = s.tallies := by
  unfold State.endDraw
  split <;> rfl

/-- The lot is HALTED with a cause, the port is FREE, and the append failures, the records and the tallies are those
of `s`. -/
structure HaltedFrom (s : State) (c : HaltCause) (t : State) : Prop where
  state : t.lot.state = .halted
  cause : t.lot.haltCause = c
  port : t.supply.port = .free
  timer : t.supply.timerRunning = false
  failures : t.supply.appendFailures = s.supply.appendFailures
  records : t.log.records = s.log.records
  tallies : t.tallies = s.tallies

theorem haltedFrom_halt {s : State} (h : s.lot.state = .opened ∨ s.lot.state = .draining) (c : HaltCause) :
    HaltedFrom s c (s.halt c) := by
  obtain ⟨-, hsupply, -, -, hrecords, -, -, htallies, -⟩ := leaveOpen_frame s
  rw [halt_of_active h]
  generalize s.leaveOpen = u at hsupply hrecords htallies
  obtain ⟨hport, htimer, hfailures⟩ := endDraw_supply u.freePort
  exact ⟨rfl, rfl, hport, htimer, by rw [hfailures, State.freePort_supply, hsupply],
    (endDraw_records _).trans hrecords, (endDraw_tallies _).trans htallies⟩

/-- In HALTED the end of an event starts nothing (R42, R58). -/
theorem HaltedFrom.finish {s t : State} {c : HaltCause} (h : HaltedFrom s c t) : HaltedFrom s c t.finish := by
  have hopened : t.lot.state ≠ .opened := by simp [h.state]
  have hdraining : t.lot.state ≠ .draining := by simp [h.state]
  have hgrant := grant_of_unwanted (fetchWanted_of_ne_opened hopened) (appendWanted_of_inactive hopened hdraining)
  rw [finish_of_ne_draining hdraining, arbitrate_of_grant_free hgrant]
  exact ⟨h.state, h.cause, h.port, h.timer, h.failures, h.records, h.tallies⟩

theorem exec_reelSilent_transfer {s : State} (h : s.supply.port = .fetch ∨ s.supply.port = .append) :
    exec .reelSilent s = .next (s.freePort.halt .reelSilent).finish := by
  rcases h with h | h <;> simp only [exec, execReelSilent, h]

/-- Settles O38: each of the three halts an active lot from the port made FREE. -/
theorem fullAndSilentReel : Obligations.FullAndSilentReel := by
  intro s hactive halted
  have hhalted : ∀ cause, halted (s.freePort.halt cause).finish cause := fun cause =>
    have ⟨h1, h2, h3, h4, h5, h6, h7⟩ := (haltedFrom_halt (s := s.freePort) hactive cause).finish
    ⟨rfl, h1, h2, h3, h4, h5, h6, h7⟩
  exact ⟨fun hport => ⟨⟨_, exec_appendFull_append hport, hhalted _⟩,
    ⟨_, exec_reelSilent_transfer (.inr hport), hhalted _⟩⟩,
    fun hport => ⟨_, exec_reelSilent_transfer (.inl hport), hhalted _⟩⟩

/-! ## Between events (R58, R146, R151, R158)

A row keeps a settled part settled in one of three ways: it moves nothing that is watched, or it takes the part between
lot states in which nothing starts by itself, or it ends with the end of an event. -/

/-- What the arbiter, the lot controller's own events and the three conditions read. -/
structure Watched where
  lot : LotController
  port : PortState
  exhausted : Bool
  draw : Option DrawStage
  unwrap : Option KeyRecord
  fetched : Nat
  log : CommitLog
  deque : List KeyEntry
  waiting : SiteSet
  bindings : Nat

/-- What is watched, in a state. -/
def watched (s : State) : Watched where
  lot := s.lot
  port := s.supply.port
  exhausted := s.supply.exhausted
  draw := s.supply.draw
  unwrap := s.supply.unwrap
  fetched := s.tallies.fetched
  log := s.log
  deque := s.pool.deque
  waiting := s.pool.waiting
  bindings := s.bindings

/-- Going from `s` to `u` keeps a settled part settled, and its condition latches at their conditions. -/
structure KeepsSettled (s u : State) : Prop where
  settled : s.Settled → u.Settled
  follow : s.LatchesFollow → u.LatchesFollow

/-- Nothing that is watched differs between `s` and `u`, and no latch of a condition source. -/
structure Unmoved (s u : State) : Prop where
  watched : watched u = watched s
  inService : u.alert.inService = s.alert.inService
  latch : ∀ src : Source, src.isCondition = true → u.alert.requested src = s.alert.requested src

section

variable {s u v : State} {n : Site}

/-! ### The three ways -/

/-- Whether a FETCH is wanted depends on what is watched. -/
theorem fetchWanted_of_watched (h : watched u = watched s) : u.fetchWanted = s.fetchWanted := by
  simp only [watched, Watched.mk.injEq] at h
  obtain ⟨hlot, -, hexhausted, hdraw, hunwrap, hfetched, hlog, hdeque, hwaiting, hbindings⟩ := h
  have himage : u.image = s.image := by rw [State.image, State.image, hlot]
  have hdraws : u.draws = s.draws := by rw [State.draws, State.draws, hdraw]
  rw [Bool.eq_iff_iff, fetchWanted_iff, fetchWanted_iff, hlot, hexhausted, hunwrap, hfetched, hlog, hdeque, hwaiting,
    hbindings, himage, hdraws]

/-- Whether a part is settled depends on what is watched. -/
theorem settled_of_watched (h : watched u = watched s) (hs : s.Settled) : u.Settled := by
  have hfetch := fetchWanted_of_watched h
  simp only [watched, Watched.mk.injEq] at h
  obtain ⟨hlot, hport, -, hdraw, -, -, hlog, hdeque, -, hbindings⟩ := h
  have hlend : u.canLend = s.canLend := by rw [State.canLend, State.canLend, hlog]
  have happend : u.appendWanted = s.appendWanted := by rw [State.appendWanted, State.appendWanted, hlot, hlog]
  have hunused : u.unusedDue = s.unusedDue := by rw [State.unusedDue, State.unusedDue, hlot, hdeque, hlend]
  have hclose : u.closeDue = s.closeDue := by
    rw [State.closeDue, State.closeDue, State.drained, State.drained, hlot, hdraw, hdeque, hbindings, hlend]
  rw [State.Settled, hport, hfetch, happend, hunused, hclose]
  exact hs

/-- The conditions depend on what is watched. -/
theorem condition_of_watched (h : watched u = watched s) (src : Source) : u.condition src = s.condition src := by
  simp only [watched, Watched.mk.injEq] at h
  obtain ⟨hlot, -, -, -, -, -, hlog, hdeque, -, -⟩ := h
  have himage : u.image = s.image := by rw [State.image, State.image, hlot]
  unfold State.condition
  rw [hlot, hlog, hdeque, himage]

theorem Unmoved.refl (s : State) : Unmoved s s := ⟨rfl, rfl, fun _ _ => rfl⟩

theorem Unmoved.trans (h : Unmoved s u) (k : Unmoved u v) : Unmoved s v :=
  ⟨k.watched.trans h.watched, k.inService.trans h.inService,
    fun src hsrc => (k.latch src hsrc).trans (h.latch src hsrc)⟩

theorem Unmoved.keepsSettled (h : Unmoved s u) : KeepsSettled s u where
  settled := settled_of_watched h.watched
  follow hs src hmem hsrc hservice := by
    rw [h.latch src hsrc, condition_of_watched h.watched]
    exact hs src hmem hsrc (by rwa [← h.inService])

theorem KeepsSettled.refl (s : State) : KeepsSettled s s := (Unmoved.refl s).keepsSettled

theorem KeepsSettled.trans (h : KeepsSettled s u) (k : KeepsSettled u v) : KeepsSettled s v :=
  ⟨k.settled ∘ h.settled, k.follow ∘ h.follow⟩

/-- Something unmoved after what keeps a settled part settled. -/
theorem KeepsSettled.unmoved (h : KeepsSettled s u) (k : Unmoved u v) : KeepsSettled s v := h.trans k.keepsSettled

/-- The end of an event settles the part, whatever the event did. -/
theorem keepsSettled_finish (s u : State) : KeepsSettled s u.finish :=
  ⟨fun _ => settled_finish u, fun _ => latchesFollow_reportConditions _⟩

/-- What acts where its condition holds. -/
theorem KeepsSettled.ite_of {c : Prop} [Decidable c] (h : c → KeepsSettled s u) :
    KeepsSettled s (if c then u else s) := by
  split
  · next hc => exact h hc
  · exact .refl s

/-- The lot states in which nothing starts by itself and no condition of the lot holds: there is no lot to supply. -/
def NoLot (l : LotState) : Prop := l = .unloaded ∨ l = .loading ∨ l = .closed

theorem NoLot.ne (h : NoLot s.lot.state) :
    s.lot.state ≠ .opened ∧ s.lot.state ≠ .draining ∧ s.lot.state ≠ .halted := by
  rcases h with h | h | h <;> simp [h]

theorem settled_of_noLot (h : NoLot s.lot.state) : s.Settled := by
  obtain ⟨hopened, hdraining, -⟩ := h.ne
  exact ⟨fun _ => ⟨fetchWanted_of_ne_opened hopened, appendWanted_of_inactive hopened hdraining⟩,
    unusedDue_of_ne_draining hdraining, closeDue_of_ne_draining hdraining⟩

/-- Without a lot the conditions read the log alone. -/
theorem condition_of_noLot (hs : NoLot s.lot.state) (hu : NoLot u.lot.state) (hlog : u.log = s.log) (src : Source) :
    u.condition src = s.condition src := by
  obtain ⟨hs1, -, hs2⟩ := hs.ne
  obtain ⟨hu1, -, hu2⟩ := hu.ne
  unfold State.condition
  rw [beq_false_of_ne hs1, beq_false_of_ne hs2, beq_false_of_ne hu1, beq_false_of_ne hu2, hlog, Bool.false_and,
    Bool.false_and]

/-- From one state without a lot to another, with the log and the condition latches as they were. -/
theorem keepsSettled_of_noLot (hs : NoLot s.lot.state) (hu : NoLot u.lot.state) (hlog : u.log = s.log)
    (hservice : u.alert.inService = s.alert.inService)
    (hlatch : ∀ src : Source, src.isCondition = true → u.alert.requested src = s.alert.requested src) :
    KeepsSettled s u where
  settled _ := settled_of_noLot hu
  follow h src hmem hsrc hout := by
    rw [hlatch src hsrc, condition_of_noLot hs hu hlog]
    exact h src hmem hsrc (by rwa [← hservice])

/-! ### Sites, exceptions and alerts -/

/-- A site context with a key exactly where the old one has one. -/
theorem unmoved_setSite {c : SiteContext} (h : c.binding.isSome = s.sites[n].binding.isSome) :
    Unmoved s (s.setSite n c) := by
  have hcount : (s.setSite n c).bindings = s.bindings := by
    have := bindings_set s n c
    rw [h] at this
    exact Nat.add_right_cancel this
  refine ⟨?_, rfl, fun _ _ => rfl⟩
  simp only [watched, hcount]
  rfl

/-- An event for an event source touches no condition source. -/
theorem event_inService (a : AlertController) (src : Source) (site : Option Site) :
    (a.event src site).inService = a.inService := by
  cases site <;> rfl

theorem requested_event_condition (a : AlertController) {src : Source} (hsrc : src.isCondition = false)
    (site : Option Site) (x : Source) (hx : x.isCondition = true) :
    (a.event src site).requested x = a.requested x := by
  have hne : x ≠ src := fun e => by rw [e, hsrc] at hx; cases hx
  have hlatch : (a.setLatch src true).requested x = a.requested x := by rw [requested_setLatch, if_neg hne]
  cases site <;> exact hlatch

theorem unmoved_raiseExc (s : State) (n : Site) (k : ExcKind) : Unmoved s (s.raiseExc n k) := by
  unfold State.raiseExc
  split
  · exact ⟨rfl, rfl, fun _ _ => rfl⟩
  · exact ⟨rfl, event_inService _ _ _, requested_event_condition _ rfl _⟩

theorem unmoved_answer (s : State) (n : Site) (st : Status) (d : Option Word) : Unmoved s (s.answer n st d) :=
  ⟨rfl, rfl, fun _ _ => rfl⟩

theorem unmoved_setLane (s : State) (n : Site) (l : Lane) : Unmoved s (s.setLane n l) :=
  ⟨rfl, rfl, fun _ _ => rfl⟩

theorem unmoved_forward (s : State) (n : Site) (t : Transaction) (d : Option Word) : Unmoved s (s.forward n t d) :=
  ⟨rfl, rfl, fun _ _ => rfl⟩

theorem unmoved_setTimers (s : State) (n : Site) (t : SiteTimers) : Unmoved s (s.setTimers n t) :=
  ⟨rfl, rfl, fun _ _ => rfl⟩

theorem unmoved_refuseOrder (s : State) (n : Site) : Unmoved s (s.refuseOrder n) :=
  (unmoved_raiseExc s n .order).trans (unmoved_answer _ n .refused _)

theorem unmoved_busy (s : State) (n : Site) : Unmoved s (s.busy n) :=
  (unmoved_answer s n .busy _).trans (unmoved_raiseExc _ n .overlap)

/-- Another alert controller, whose condition sources out of service are latched by their conditions. -/
theorem keepsSettled_setAlert {a : AlertController}
    (h : s.LatchesFollow → ∀ x : Source, x.isCondition = true → x ∉ a.inService → a.requested x = s.condition x) :
    KeepsSettled s { s with alert := a } where
  settled := settled_of_watched rfl
  follow hs x _ hx hservice := by
    rw [condition_of_watched (s := s) (u := { s with alert := a }) rfl]
    exact h hs x hx hservice

theorem requested_of_follow (h : s.LatchesFollow) {x : Source} (hx : x.isCondition = true)
    (hservice : x ∉ s.alert.inService) : s.alert.requested x = s.condition x :=
  h x (mem_sources x) hx hservice

/-- A condition source that leaves service is requested again where its condition holds (R165). -/
theorem keepsSettled_leaveService (s : State) (src : Source) : KeepsSettled s (s.leaveService src) := by
  have hleft : ∀ {x : Source}, x ≠ src → x ∉ s.alert.inService.filter (· != src) → x ∉ s.alert.inService :=
    fun hne hx hmem => hx (List.mem_filter.2 ⟨hmem, by simpa using hne⟩)
  unfold State.leaveService
  dsimp only
  split
  · refine keepsSettled_setAlert fun h x hx hservice => ?_
    rw [requested_setLatch]
    split
    · next heq => rw [heq]
    · next hne => exact requested_of_follow h hx (hleft hne hservice)
  · next hevent =>
    refine keepsSettled_setAlert fun h x hx hservice => ?_
    have hne : x ≠ src := fun e => hevent (e ▸ hx)
    exact requested_of_follow h hx (hleft hne hservice)

/-- A source put in service with its latch cleared (R161). -/
theorem keepsSettled_putInService (s : State) (src : Source) (sets : SiteSets) :
    KeepsSettled s { s with alert := { s.alert.setLatch src false with
      siteSets := sets, inService := s.alert.inService ++ [src] } } := by
  refine keepsSettled_setAlert fun h x hx hservice => ?_
  obtain ⟨hout, hne⟩ : x ∉ s.alert.inService ∧ x ≠ src := by simpa using hservice
  rw [← requested_of_follow h hx hout]
  exact (requested_setLatch s.alert src x false).trans (if_neg hne)

theorem keepsSettled_takeAlert (s : State) (n : Site) : KeepsSettled s (s.takeAlert n) := by
  unfold State.takeAlert
  split
  · exact (unmoved_answer s n .ok _).keepsSettled
  · next src _ =>
    dsimp only
    refine KeepsSettled.unmoved ?_ (unmoved_answer _ n .ok _)
    split
    · exact (keepsSettled_putInService s src _).trans (keepsSettled_leaveService _ src)
    · exact keepsSettled_putInService s src _

theorem keepsSettled_endAlert (s : State) (n : Site) : KeepsSettled s (s.endAlert n) := by
  unfold State.endAlert
  split
  · exact (unmoved_answer s n .refused _).keepsSettled
  · exact (keepsSettled_leaveService s _).unmoved (unmoved_answer _ n .ok _)

theorem keepsSettled_endAlertOf (s : State) (n : Site) (src : Source) : KeepsSettled s (s.endAlertOf n src) := by
  unfold State.endAlertOf
  split
  · exact (keepsSettled_leaveService s src).unmoved (unmoved_answer _ n .ok _)
  · exact (unmoved_answer s n .refused _).keepsSettled

/-- A site withdrawn from SITE-EXCEPTION touches no condition source (R139, R167). -/
theorem unmoved_removePending (s : State) (m : Site) :
    Unmoved s { s.clearSticky m with alert := s.alert.removePending m } := by
  unfold AlertController.removePending
  split
  · dsimp only
    split
    · exact ⟨rfl, rfl, fun _ _ => rfl⟩
    · refine ⟨rfl, rfl, fun x hx => ?_⟩
      have hne : x ≠ .siteException := fun e => by rw [e] at hx; cases hx
      exact (requested_setLatch _ .siteException x false).trans (if_neg hne)
  · exact ⟨rfl, rfl, fun _ _ => rfl⟩

/-! ### Loads and the reel's arrival and removal (R29 to R31, R50) -/

theorem keepsSettled_enterLoading (h : s.lot.state = .unloaded ∨ s.lot.state = .closed) :
    KeepsSettled s s.enterLoading := by
  rcases h with h | h
  · rw [enterLoading_of_ne_closed (by simp [h])]
    exact keepsSettled_of_noLot (.inl h) (.inr (.inl rfl)) rfl rfl fun _ _ => rfl
  · rw [enterLoading_of_closed h]
    exact keepsSettled_of_noLot (.inr (.inr h)) (.inr (.inl rfl)) rfl rfl fun _ _ => rfl

theorem keepsSettled_failLoad (h : NoLot s.lot.state) (e : LoadError) : KeepsSettled s (s.failLoad e) :=
  keepsSettled_of_noLot h (.inl rfl) rfl rfl (requested_event_condition _ rfl none)

/-- A load that fails with IMAGE on the port. -/
theorem keepsSettled_freePort_failLoad (h : NoLot s.lot.state) (e : LoadError) :
    KeepsSettled s (s.freePort.failLoad e) :=
  keepsSettled_of_noLot h (.inl rfl) rfl rfl (requested_event_condition _ rfl none)

theorem unmoved_reelDebouncer (s : State) (d : ReelDebouncer) :
    Unmoved s { s with supply := { s.supply with debouncer := d } } := ⟨rfl, rfl, fun _ _ => rfl⟩

theorem keepsSettled_reelArrival (s : State) : KeepsSettled s s.reelArrival := by
  by_cases h : s.lot.state = .unloaded
  · simp only [State.reelArrival, h]
    exact keepsSettled_enterLoading (.inl h)
  · rw [reelArrival_of_ne_unloaded h]
    exact .refl s

theorem keepsSettled_reelRemoval (s : State) : KeepsSettled s s.reelRemoval := by
  cases h : s.lot.state with
  | unloaded => rw [reelRemoval_of_idle (.inl h)]; exact .refl s
  | loading => rw [reelRemoval_of_loading h]; exact keepsSettled_freePort_failLoad (.inr (.inl h)) .reel
  | opened => rw [reelRemoval_of_active (.inl h)]; exact keepsSettled_finish _ _
  | draining => rw [reelRemoval_of_active (.inr h)]; exact keepsSettled_finish _ _
  | closed =>
    rw [reelRemoval_of_closed h]
    exact keepsSettled_of_noLot (.inr (.inr h)) (.inl rfl) rfl rfl fun _ _ => rfl
  | halted => rw [reelRemoval_of_idle (.inr h)]; exact .refl s

/-! ### Requests (01, 05) -/

theorem keepsSettled_guarded (s : State) (n : Site) (k : Kind) : KeepsSettled s (s.guarded n k) :=
  ((unmoved_raiseExc s n .guard).trans (unmoved_answer _ n _ _)).keepsSettled

theorem keepsSettled_bindClaim (s : State) (n : Site) (t : Transaction) : KeepsSettled s (s.bindClaim n t) := by
  unfold State.bindClaim
  split
  · exact (unmoved_answer s n .retry _).keepsSettled
  · split
    · exact keepsSettled_finish _ _
    · split
      · exact keepsSettled_finish _ _
      · split <;> exact keepsSettled_finish _ _

theorem keepsSettled_bindTrigger (s : State) (n : Site) (t : Transaction) : KeepsSettled s (s.bindTrigger n t) := by
  unfold State.bindTrigger
  split
  · exact (unmoved_refuseOrder s n).keepsSettled
  · split
    · exact ((unmoved_raiseExc s n .keyless).trans (unmoved_answer _ n .refused _)).keepsSettled
    · exact keepsSettled_bindClaim s n t

theorem keepsSettled_stageWrite (s : State) (n : Site) (t : Transaction) : KeepsSettled s (s.stageWrite n t) := by
  unfold State.stageWrite
  split
  · exact keepsSettled_bindTrigger s n t
  · split
    · exact (unmoved_refuseOrder s n).keepsSettled
    · next b hb => exact ((unmoved_setSite (by rw [hb]; rfl)).trans (unmoved_forward _ n _ _)).keepsSettled
  · exact (unmoved_forward s n _ _).keepsSettled
  iterate 4 exact (unmoved_refuseOrder s n).keepsSettled
  · exact (unmoved_answer s n .detached _).keepsSettled

theorem keepsSettled_armWrite (s : State) (n : Site) (t : Transaction) : KeepsSettled s (s.armWrite n t) := by
  unfold State.armWrite
  split
  · exact (((unmoved_setSite (by rfl)).trans (unmoved_setTimers _ n _)).trans (unmoved_forward _ n _ _)).keepsSettled
  · exact (unmoved_refuseOrder s n).keepsSettled

/-- A request by its role (R9 to R11). -/
theorem keepsSettled_byRole (s : State) (n : Site) (t : Transaction) (data : Word) :
    KeepsSettled s (s.byRole n t data) := by
  have hforward : ∀ t d, KeepsSettled s (s.forward n t d) := fun t d => (unmoved_forward s n t d).keepsSettled
  unfold State.byRole
  split
  · exact hforward _ _
  · exact keepsSettled_guarded s n _
  iterate 3 split <;> exact hforward _ _
  · split
    · exact (unmoved_answer s n .ok _).keepsSettled
    · exact keepsSettled_stageWrite s n t
  · split
    · exact hforward _ _
    · split
      · exact keepsSettled_armWrite s n t
      · exact hforward _ _
  · exact (unmoved_answer s n .refused _).keepsSettled

theorem keepsSettled_byLot (s : State) (n : Site) (k : Kind) (a d : Address) (data : Word) :
    KeepsSettled s (s.byLot n k a d data) := by
  unfold State.byLot
  split
  · exact (unmoved_forward s n _ _).keepsSettled
  · exact (unmoved_answer s n .retry _).keepsSettled
  all_goals exact keepsSettled_byRole s n _ data

/-! ### Outcomes (R83 to R99) -/

theorem keepsSettled_identOutcome (s : State) (n : Site) (offset : Nat) (o : DieOutcome) :
    KeepsSettled s (s.identOutcome n offset o) := by
  unfold State.identOutcome
  split
  · exact (unmoved_setSite (by rfl)).keepsSettled
  · exact .refl s

theorem keepsSettled_stageOutcome (s : State) (n : Site) (offset : Nat) (o : DieOutcome) :
    KeepsSettled s (s.stageOutcome n offset o) := by
  unfold State.stageOutcome
  split
  · exact .refl s
  · next b hb => exact .ite_of fun _ => (unmoved_setSite (by rw [hb]; rfl)).keepsSettled

theorem unmoved_backToStaging (s : State) (n : Site) : Unmoved s (s.backToStaging n) :=
  (unmoved_setSite (by rfl)).trans (unmoved_setTimers _ n _)

theorem keepsSettled_armOutcome (s : State) (n : Site) (o : DieOutcome) : KeepsSettled s (s.armOutcome n o) := by
  by_cases harmed : s.sites[n].state = .armed
  · have hcounted : KeepsSettled s (s.setSite n { s.sites[n] with attempts := s.sites[n].attempts + 1 }) :=
      (unmoved_setSite (by rfl)).keepsSettled
    unfold State.armOutcome
    rw [harmed]
    cases o with
    | nak => exact (unmoved_backToStaging s n).keepsSettled
    | ok data => exact hcounted
    | timeout => exact hcounted
  · rw [armOutcome_of_ne_armed harmed]
    exact .refl s

theorem keepsSettled_statusOutcome (s : State) (n : Site) (o : DieOutcome) : KeepsSettled s (s.statusOutcome n o) := by
  unfold State.statusOutcome
  split
  · split
    · exact ((unmoved_setSite (by rfl)).trans (unmoved_setTimers _ n _)).keepsSettled
    · refine .ite_of fun _ => ?_
      unfold State.statusFail
      split
      · exact (unmoved_backToStaging s n).keepsSettled
      · exact keepsSettled_finish _ _
  · exact .refl s

theorem keepsSettled_compareCheck (s : State) (n : Site) (check : CheckWords) :
    KeepsSettled s (s.compareCheck n check) := by
  unfold State.compareCheck
  split
  · split <;> exact keepsSettled_finish _ _
  · exact .refl s

theorem keepsSettled_checkOutcome (s : State) (n : Site) (offset : Nat) (o : DieOutcome) :
    KeepsSettled s (s.checkOutcome n offset o) := by
  unfold State.checkOutcome
  split
  · exact (unmoved_setSite (by rfl)).keepsSettled.trans (keepsSettled_compareCheck _ n _)
  · exact .refl s

theorem keepsSettled_outcome (s : State) (n : Site) (t : Transaction) (o : DieOutcome) :
    KeepsSettled s (s.outcome n t o) := by
  refine .ite_of fun _ => ?_
  unfold State.outcomeByRole
  split
  · exact keepsSettled_identOutcome s n _ o
  · exact keepsSettled_stageOutcome s n _ o
  · exact .ite_of fun _ => keepsSettled_armOutcome s n o
  · exact keepsSettled_statusOutcome s n o
  · exact keepsSettled_checkOutcome s n _ o
  all_goals exact .refl s

theorem keepsSettled_endTransaction (s : State) (n : Site) (t : Transaction) (st : Status) (data : Word) :
    KeepsSettled s (s.endTransaction n t st data) := by
  have houtcome : KeepsSettled s (if t.observed then s.outcome n t (dieOutcome t.kind st data) else s) :=
    .ite_of fun _ => keepsSettled_outcome s n t _
  exact (houtcome.unmoved (unmoved_answer _ n st _)).unmoved (unmoved_setLane _ n _)

/-! ### Contact (R18, R104, R105) -/

/-- Contact establishment at a site without a key: VACANT, in a coherent state. -/
theorem keepsSettled_establish (h : s.sites[n].binding = none) : KeepsSettled s (s.establish n) :=
  ((unmoved_setTimers s n _).trans (unmoved_setSite (s := s.setTimers n _) (by
    rw [State.setTimers_sites, h]; rfl))).keepsSettled

theorem keepsSettled_laneLoss (s : State) (n : Site) : KeepsSettled s (s.laneLoss n) := by
  have hlost : KeepsSettled s ((s.answer n .detached).setLane n Lane.idle) :=
    ((unmoved_answer s n .detached _).trans (unmoved_setLane _ n _)).keepsSettled
  unfold State.laneLoss
  split
  · exact .refl s
  · exact hlost
  · exact hlost
  · exact (unmoved_setLane s n _).keepsSettled

theorem keepsSettled_vacate (s : State) (n : Site) : KeepsSettled s (s.vacate n) :=
  (unmoved_setSite (by rfl)).keepsSettled

theorem keepsSettled_siteLoss (s : State) (n : Site) : KeepsSettled s (s.siteLoss n) := by
  unfold State.siteLoss
  split
  iterate 4 exact keepsSettled_vacate s n
  · split
    · exact keepsSettled_finish _ _
    · exact keepsSettled_vacate s n
  iterate 3 exact keepsSettled_finish _ _

/-! ### Expiries (R14, R15, R118, R121, R124) -/

theorem keepsSettled_keyWaitExpired (s : State) (n : Site) : KeepsSettled s (s.keyWaitExpired n) := by
  unfold State.keyWaitExpired
  split
  · split <;> exact keepsSettled_finish _ _
  · exact (unmoved_setTimers s n _).keepsSettled

theorem keepsSettled_responseExpired (s : State) (n : Site) : KeepsSettled s (s.responseExpired n) := by
  have hraised : KeepsSettled s ((s.answer n .timeout).raiseExc n .timeout) :=
    ((unmoved_answer s n .timeout _).trans (unmoved_raiseExc _ n .timeout)).keepsSettled
  unfold State.responseExpired
  refine KeepsSettled.unmoved ?_ (unmoved_setLane _ n _)
  split
  · exact hraised.trans (.ite_of fun _ => keepsSettled_outcome _ n _ .timeout)
  · exact hraised

theorem keepsSettled_quietExpired (s : State) (n : Site) : KeepsSettled s (s.quietExpired n) :=
  (unmoved_setLane s n _).keepsSettled

/-! ### The claim window (09, 10) -/

theorem keepsSettled_cmdLoad (s : State) (n : Site) : KeepsSettled s (s.cmdLoad n) := by
  have hanswer : ∀ {u} st, KeepsSettled s u → KeepsSettled s (u.answer n st) := fun st h =>
    h.unmoved (unmoved_answer _ n st _)
  unfold State.cmdLoad
  split
  · next h =>
    split
    · exact hanswer .ok (keepsSettled_enterLoading (.inl h))
    · exact hanswer .ok (keepsSettled_failLoad (.inl h) .reel)
  · next h =>
    split
    · exact hanswer .ok (keepsSettled_enterLoading (.inr h))
    · exact hanswer .ok ((keepsSettled_failLoad (.inr (.inr h)) .reel).unmoved ⟨rfl, rfl, fun _ _ => rfl⟩)
  all_goals exact hanswer .refused (.refl s)

theorem keepsSettled_cmdClose (s : State) (n : Site) : KeepsSettled s (s.cmdClose n) := by
  unfold State.cmdClose
  split
  · exact keepsSettled_finish _ _
  · exact (unmoved_answer s n .refused _).keepsSettled

theorem keepsSettled_releaseSite (s : State) (n m : Site) : KeepsSettled s (s.releaseSite n m) := by
  have hrefused : KeepsSettled s (s.answer n .refused) := (unmoved_answer s n .refused _).keepsSettled
  have hfinished : KeepsSettled s ((s.setSite m { s.sites[m] with state := .finished }).answer n .ok) :=
    ((unmoved_setSite (by rfl)).trans (unmoved_answer _ n .ok _)).keepsSettled
  unfold State.releaseSite
  generalize s.sites[m].state = state
  cases state
  case vacant | finished => exact hrefused
  case ready =>
    dsimp only
    split
    · exact keepsSettled_finish _ _
    · exact hrefused
  case blanked | fault => exact hfinished
  case staging | armed | programmed => exact keepsSettled_finish _ _

theorem keepsSettled_withSiteArg (n : Site) (arg : Byte) {f : Site → State} (hf : ∀ m, KeepsSettled s (f m)) :
    KeepsSettled s (s.withSiteArg n arg f) := by
  have hrefused : KeepsSettled s (s.answer n .refused) := (unmoved_answer s n .refused _).keepsSettled
  unfold State.withSiteArg
  split
  · split
    · exact hf _
    · exact hrefused
  · exact hrefused

theorem unmoved_cmdMask (s : State) (n : Site) (arg : Byte) (on : Bool) : Unmoved s (s.cmdMask n arg on) := by
  unfold State.cmdMask
  split
  · split <;> exact ⟨rfl, rfl, fun _ _ => rfl⟩
  · exact unmoved_answer s n .refused _

theorem keepsSettled_cmdLowest (s : State) (n : Site) (arg : Byte) : KeepsSettled s (s.cmdLowest n arg) :=
  keepsSettled_withSiteArg n arg fun _ => Unmoved.keepsSettled ⟨rfl, rfl, fun _ _ => rfl⟩

theorem keepsSettled_cmdClearChecked (s : State) (n : Site) (arg : Byte) :
    KeepsSettled s (s.cmdClearChecked n arg) := by
  refine keepsSettled_withSiteArg n arg fun m => Unmoved.keepsSettled ?_
  split
  · exact unmoved_answer s n .refused _
  · exact ⟨rfl, rfl, fun _ _ => rfl⟩

theorem keepsSettled_cmdClearUnchecked (s : State) (n : Site) (arg : Byte) :
    KeepsSettled s (s.cmdClearUnchecked n arg) :=
  keepsSettled_withSiteArg n arg fun m =>
    ((unmoved_removePending s m).trans (unmoved_answer _ n .ok _)).keepsSettled

theorem keepsSettled_cmdRelease (s : State) (n : Site) (arg : Byte) : KeepsSettled s (s.cmdRelease n arg) :=
  keepsSettled_withSiteArg n arg (keepsSettled_releaseSite s n)

theorem unmoved_alertMaskWrite (s : State) (n : Site) (data : Word) : Unmoved s (s.alertMaskWrite n data) :=
  ⟨rfl, rfl, fun _ _ => rfl⟩

theorem unmoved_excMaskWrite (s : State) (n : Site) (data : Word) : Unmoved s (s.excMaskWrite n data) :=
  ⟨rfl, rfl, fun _ _ => rfl⟩

theorem unmoved_selectView (s : State) (n : Site) (page : BitVec 4) (index : Byte) :
    Unmoved s (s.selectView n page index) := by
  unfold State.selectView
  split
  · split <;> exact ⟨rfl, rfl, fun _ _ => rfl⟩
  · exact unmoved_answer s n .refused _

theorem unmoved_readView (s : State) (n : Site) : Unmoved s (s.readView n) := ⟨rfl, rfl, fun _ _ => rfl⟩

theorem unmoved_latchTallies (s : State) (n : Site) : Unmoved s (s.latchTallies n) := by
  unfold State.latchTallies
  split <;> exact ⟨rfl, rfl, fun _ _ => rfl⟩

theorem unmoved_readTally (s : State) (n : Site) (t : Tally) : Unmoved s (s.readTally n t) := by
  unfold State.readTally
  dsimp only
  split
  · exact unmoved_answer s n .ok _
  · split <;> exact ⟨rfl, rfl, fun _ _ => rfl⟩

theorem keepsSettled_commandWrite (s : State) (n : Site) (data : Word) : KeepsSettled s (s.commandWrite n data) := by
  unfold State.commandWrite
  dsimp only
  split
  · exact keepsSettled_cmdLoad s n
  · exact keepsSettled_cmdClose s n
  · exact keepsSettled_cmdRelease s n _
  · exact keepsSettled_cmdLowest s n _
  · exact (unmoved_cmdMask s n _ _).keepsSettled
  · exact keepsSettled_cmdClearChecked s n _
  · exact keepsSettled_cmdClearUnchecked s n _
  · exact (unmoved_answer s n .refused _).keepsSettled

theorem keepsSettled_claimRead (s : State) (n : Site) (word : Fin 16) : KeepsSettled s (s.claimRead n word) := by
  unfold State.claimRead
  split
  case h_4 => exact keepsSettled_takeAlert s n
  case h_9 => exact (unmoved_readView s n).keepsSettled
  case h_11 | h_12 | h_13 | h_14 | h_15 => exact (unmoved_readTally s n _).keepsSettled
  all_goals exact (unmoved_answer s n .ok _).keepsSettled

theorem keepsSettled_claimWrite (s : State) (n : Site) (word : Fin 16) (data : Word) :
    KeepsSettled s (s.claimWrite n word data) := by
  unfold State.claimWrite
  split
  · exact keepsSettled_commandWrite s n data
  · unfold State.alertEndWrite
    split
    · exact keepsSettled_endAlertOf s n _
    · exact keepsSettled_endAlert s n
  · exact (unmoved_alertMaskWrite s n data).keepsSettled
  · exact (unmoved_excMaskWrite s n data).keepsSettled
  · exact (unmoved_selectView s n _ _).keepsSettled
  · exact (unmoved_latchTallies s n).keepsSettled
  · exact (unmoved_answer s n .refused _).keepsSettled

theorem keepsSettled_onIdleLane (n : Site) (h : KeepsSettled s u) : KeepsSettled s (s.onIdleLane n u) := by
  unfold State.onIdleLane
  split
  · exact h
  · exact (unmoved_busy s n).keepsSettled

/-- A request at a lane (R4, R17). -/
theorem keepsSettled_request (s : State) (n : Site) (k : Kind) (a : Address) (data : Word) :
    KeepsSettled s (s.request n k a data) := by
  unfold State.request
  split
  · unfold State.classify
    dsimp only
    split
    · exact ((unmoved_answer s n .parity _).trans (unmoved_raiseExc _ n .parity)).keepsSettled
    · split
      · split
        · exact keepsSettled_claimRead s n _
        · exact keepsSettled_claimWrite s n _ data
      · split
        · exact keepsSettled_byLot s n k _ _ data
        · exact (unmoved_answer s n .detached _).keepsSettled
  · exact (unmoved_busy s n).keepsSettled

/-! ### Keys in contact (R82, R104)

A tick takes several expiries one after the other, each in a state that no step ends in. What establishment needs of these
states is that a site out of contact has no key, which the expiries keep. -/

/-- R82, R104 on the timers, the sites and the waiting set alone: what leaves these three as they are keeps it. -/
def InContact (timers : PerSite SiteTimers) (sites : PerSite SiteContext) (waiting : SiteSet) : Prop :=
  ∀ n : Site, sites[n].binding.isSome = true ∨ waiting[n] = true → timers[n].debouncer = .established

/-- A key is bound, and a site waits for one, only where contact is established. -/
def KeysInContact (s : State) : Prop := InContact s.timers s.sites s.pool.waiting

theorem keysInContact_of_coherent (h : s.Coherent) : KeysInContact s := by
  intro m hm
  obtain ⟨hkey, -, -, hvacant⟩ := h.sites m
  obtain ⟨-, hready, -⟩ := h.waits m
  by_contra hlost
  have hstate := hvacant.2 hlost
  rcases hm with hbound | hwaits
  · have hholds := hkey.1 hbound
    rw [hstate] at hholds
    cases hholds
  · have := hready hwaits
    rw [hstate] at this
    cases this

theorem KeysInContact.binding_none (h : KeysInContact s) (hn : s.timers[n].debouncer ≠ .established) :
    s.sites[n].binding = none :=
  Option.not_isSome_iff_eq_none.1 fun hbound => hn (h n (.inl hbound))

/-- A site context with a key only where contact is established. -/
theorem KeysInContact.setSite (h : KeysInContact s) {c : SiteContext}
    (hc : c.binding.isSome = true → s.timers[n].debouncer = .established) : KeysInContact (s.setSite n c) := by
  have hsites : ∀ m : Site, (s.sites.set n c)[m].binding.isSome = true → s.timers[m].debouncer = .established :=
    forall_perSite_set (P := fun m (c : SiteContext) => c.binding.isSome = true → s.timers[m].debouncer = .established)
      hc fun m hm => h m (.inl hm)
  exact fun m hm => hm.elim (hsites m) fun hwaits => h m (.inr hwaits)

/-- A site context with the key of the old one. -/
theorem KeysInContact.setSite_same (h : KeysInContact s) {c : SiteContext}
    (hc : c.binding.isSome = true → s.sites[n].binding.isSome = true) : KeysInContact (s.setSite n c) :=
  h.setSite fun hbound => h n (.inl (hc hbound))

/-- The timers of a site, whose debouncer stays or is ESTABLISHED. -/
theorem KeysInContact.setTimers (h : KeysInContact s) {t : SiteTimers}
    (ht : t.debouncer = .established ∨ t.debouncer = s.timers[n].debouncer) : KeysInContact (s.setTimers n t) := by
  refine forall_perSite_set
    (P := fun m (t : SiteTimers) => s.sites[m].binding.isSome = true ∨ s.pool.waiting[m] = true →
      t.debouncer = .established) (fun hm => ?_) h
  exact ht.elim id fun hsame => hsame.trans (h n hm)

theorem KeysInContact.unsetWaiting (h : KeysInContact s) : KeysInContact (s.setWaiting n false) := by
  have hwaiting : ∀ m : Site, (s.pool.waiting.set n false)[m] = true → s.timers[m].debouncer = .established :=
    forall_perSite_set (P := fun m b => b = true → s.timers[m].debouncer = .established) (fun hb => nomatch hb)
      fun m hm => h m (.inr hm)
  exact fun m hm => hm.elim (fun hbound => h m (.inl hbound)) (hwaiting m)

theorem KeysInContact.finish (h : KeysInContact s) : KeysInContact s.finish := by
  obtain ⟨hsites, htimers, -, -, -, -, -, -, -, -, hwaiting, -⟩ := finish_frame s
  rw [KeysInContact, hsites, htimers, hwaiting]
  exact h

/-- What acts where its condition holds. -/
theorem KeysInContact.ite_of (h : KeysInContact s) {c : Prop} [Decidable c] (hu : c → KeysInContact u) :
    KeysInContact (if c then u else s) := by
  split
  · next hc => exact hu hc
  · exact h

theorem KeysInContact.stopKeyWait (h : KeysInContact s) : KeysInContact (s.stopKeyWait n) := h.setTimers (.inr rfl)

theorem KeysInContact.stopBurnTimers (h : KeysInContact s) : KeysInContact (s.stopBurnTimers n) :=
  h.setTimers (.inr rfl)

theorem KeysInContact.endBinding (h : KeysInContact s) (next : SiteState) (last : LastOutcome) :
    KeysInContact (s.endBinding n next last) :=
  KeysInContact.stopBurnTimers (s := s.setSite n _) (h.setSite fun hbound => nomatch hbound)

theorem KeysInContact.spoil (h : KeysInContact s) (r : SpoilReason) (next : SiteState) :
    KeysInContact (s.spoil n r next) := by
  unfold State.spoil
  split
  · exact h
  · exact KeysInContact.endBinding (s := (s.useRes _).raiseTally .spoiled) h next (.spoil r)

/-- A key handed to a waiting site, which is in contact (R73). -/
theorem KeysInContact.handOut (h : KeysInContact s) (hn : s.pool.waiting[n] = true) (e : KeyEntry) :
    KeysInContact (s.handOut n e) := by
  have hcontact : s.timers[n].debouncer = .established := h n (.inr hn)
  have hleft : KeysInContact ((s.setWaiting n false).stopKeyWait n) := h.unsetWaiting.stopKeyWait
  have hbound : ∀ c, KeysInContact (((s.setWaiting n false).stopKeyWait n).setSite n c) := fun c =>
    hleft.setSite fun _ => by simpa [-Fin.getElem_fin] using hcontact
  exact KeysInContact.setTimers (hbound _) (.inr rfl)

theorem KeysInContact.deliver (h : KeysInContact s) (e : KeyEntry) (front : Bool) :
    KeysInContact (s.deliver e front) := by
  rcases deliver_cases s e front with ⟨m, hm, heq⟩ | ⟨-, heq⟩ <;> rw [heq]
  · exact h.handOut (recipient_some hm).1 e
  · exact h

theorem KeysInContact.returnKey (h : KeysInContact s) (next : SiteState) : KeysInContact (s.returnKey n next) := by
  unfold State.returnKey
  split
  · exact h
  · exact KeysInContact.deliver (s := (s.endBinding n next .returned).releaseRes) (h.endBinding next .returned) _ _

theorem KeysInContact.endStaging (h : KeysInContact s) (r : SpoilReason) (spoiled returned : SiteState) :
    KeysInContact (s.endStaging n r spoiled returned) := by
  unfold State.endStaging
  split
  · exact h
  · split
    · exact h.spoil r spoiled
    · exact h.returnKey returned

theorem KeysInContact.blank (h : KeysInContact s) : KeysInContact (s.blank n) :=
  KeysInContact.setSite_same (s := (s.useRes _).raiseTally .blanked) h id

/-! ### Keys in contact through the expiries of a tick (R112) -/

theorem KeysInContact.establish (h : KeysInContact s) : KeysInContact (s.establish n) :=
  KeysInContact.setSite (s := s.setTimers n _) (h.setTimers (.inl rfl)) fun hbound => nomatch hbound

theorem KeysInContact.keyWaitExpired (h : KeysInContact s) : KeysInContact (s.keyWaitExpired n) := by
  have hleft : KeysInContact (((s.stopKeyWait n).setWaiting n false).raiseExc n .keyless) :=
    h.stopKeyWait.unsetWaiting
  unfold State.keyWaitExpired
  split
  · split
    · exact KeysInContact.finish (s := State.forward _ n _ _) hleft.blank
    · exact KeysInContact.finish (s := State.setLane _ n _) hleft
  · exact h.stopKeyWait

theorem KeysInContact.dwellExpired (h : KeysInContact s) : KeysInContact (s.dwellExpired n) :=
  (h.stopBurnTimers.endStaging .dwell .fault .ready).finish

theorem KeysInContact.watchdogExpired (h : KeysInContact s) : KeysInContact (s.watchdogExpired n) :=
  (h.stopBurnTimers.spoil .stall .fault).finish

theorem KeysInContact.stageOutcome (h : KeysInContact s) (offset : Nat) (o : DieOutcome) :
    KeysInContact (s.stageOutcome n offset o) := by
  unfold State.stageOutcome
  split
  · exact h
  · next b hb => exact h.ite_of fun _ => h.setSite_same fun _ => by rw [hb]; rfl

theorem KeysInContact.armOutcome (h : KeysInContact s) (o : DieOutcome) : KeysInContact (s.armOutcome n o) := by
  have hcounted : KeysInContact (s.setSite n { s.sites[n] with attempts := s.sites[n].attempts + 1 }) :=
    h.setSite_same id
  have hback : KeysInContact (s.backToStaging n) :=
    KeysInContact.setTimers (s := s.setSite n { s.sites[n] with state := .staging, suspect := false })
      (h.setSite_same id) (.inr rfl)
  by_cases harmed : s.sites[n].state = .armed
  · unfold State.armOutcome
    rw [harmed]
    cases o with
    | nak => exact hback
    | ok data => exact hcounted
    | timeout => exact hcounted
  · rw [armOutcome_of_ne_armed harmed]
    exact h

theorem identOutcome_timeout (s : State) (n : Site) (offset : Nat) : s.identOutcome n offset .timeout = s := by
  unfold State.identOutcome
  generalize s.sites[n].state = state
  cases state <;> rfl

theorem statusOutcome_timeout (s : State) (n : Site) : s.statusOutcome n .timeout = s := by
  unfold State.statusOutcome
  generalize s.sites[n].state = state
  cases state <;> rfl

theorem checkOutcome_timeout (s : State) (n : Site) (offset : Nat) : s.checkOutcome n offset .timeout = s := by
  unfold State.checkOutcome
  generalize s.sites[n].state = state
  generalize s.sites[n].binding = binding
  cases state <;> cases binding <;> rfl

/-- Only STAGE and ARM writes read a TIMEOUT (R83). -/
theorem KeysInContact.outcome_timeout (h : KeysInContact s) (t : Transaction) :
    KeysInContact (s.outcome n t .timeout) := by
  refine h.ite_of fun _ => ?_
  unfold State.outcomeByRole
  split
  · rwa [identOutcome_timeout]
  · exact h.stageOutcome _ .timeout
  · exact h.ite_of fun _ => h.armOutcome .timeout
  · rwa [statusOutcome_timeout]
  · rwa [checkOutcome_timeout]
  all_goals exact h

theorem KeysInContact.responseExpired (h : KeysInContact s) : KeysInContact (s.responseExpired n) := by
  have hraised : KeysInContact ((s.answer n .timeout).raiseExc n .timeout) := h
  unfold State.responseExpired
  split
  · exact hraised.ite_of fun _ => hraised.outcome_timeout _
  · exact hraised

theorem KeysInContact.quietExpired (h : KeysInContact s) : KeysInContact (s.quietExpired n) := h

theorem KeysInContact.countTick (h : KeysInContact s) : KeysInContact s.countTick := by
  intro m hm
  rw [State.countTick_timers, h m hm]
  rfl

/-- A debouncer that has counted the debounce is settling. -/
theorem ne_established_of_reached {d : Debouncer} {limit : Nat} (h : d.reached limit = true) : d ≠ .established := by
  rintro rfl
  cases h

/-! ### The tick (R111, R112) -/

/-- A state inside a tick that starts from `s`. -/
structure InTick (s u : State) : Prop where
  settled : KeepsSettled s u
  contact : KeysInContact u

theorem InTick.ite_of (h : InTick s u) {c : Prop} [Decidable c] (hv : c → KeepsSettled u v)
    (hcontact : c → KeysInContact v) : InTick s (if c then v else u) := by
  split
  · next hc => exact ⟨h.settled.trans (hv hc), hcontact hc⟩
  · exact h

theorem InTick.expireAt (h : InTick s u) (n : Site) : InTick s (u.expireAt n) := by
  unfold State.expireAt
  extract_lets s1 s2 s3 s4
  have h1 : InTick s s1 := h.ite_of
    (fun hreached => keepsSettled_establish (h.contact.binding_none (ne_established_of_reached hreached)))
    fun _ => h.contact.establish
  have h2 : InTick s s2 := h1.ite_of (fun _ => keepsSettled_keyWaitExpired s1 n) fun _ => h1.contact.keyWaitExpired
  have h3 : InTick s s3 := h2.ite_of (fun _ => keepsSettled_finish _ _) fun _ => h2.contact.dwellExpired
  have h4 : InTick s s4 := h3.ite_of (fun _ => keepsSettled_finish _ _) fun _ => h3.contact.watchdogExpired
  split
  · split
    · exact ⟨h4.settled.trans (keepsSettled_responseExpired s4 n), h4.contact.responseExpired⟩
    · exact ⟨h4.settled.trans (keepsSettled_quietExpired s4 n), h4.contact.quietExpired⟩
    · exact h4
    · exact h4
  · exact h4

theorem inTick_foldl (sites : List Site) (h : InTick s u) : InTick s (sites.foldl State.expireAt u) := by
  induction sites generalizing u with
  | nil => exact h
  | cons n sites ih => exact ih (h.expireAt n)

theorem keepsSettled_tick (h : KeysInContact s) :
    KeepsSettled s ((List.finRange 8).foldl State.expireAt s.countTick) :=
  have hcounted : Unmoved s s.countTick := ⟨rfl, rfl, fun _ _ => rfl⟩
  (inTick_foldl _ ⟨hcounted.keepsSettled, h.countTick⟩).settled

/-! ### The reel's rows (03) -/

/-- The operation that an answer is listed for (R192). -/
def answerPort : ReelAnswer → PortState
  | .image _ | .absent => .image
  | .record _ | .endOfReel => .fetch
  | .appendOk | .appendFail | .appendFull => .append

/-- Bytes are an answer to the operation on the port alone. -/
theorem answerPort_of_ofBytes {port : PortState} {bytes : List Byte} {answer : ReelAnswer}
    (h : ReelAnswer.ofBytes port bytes = some answer) : answerPort answer = port := by
  have hmap : ∀ {α : Type} {x : Option α} {f : α → ReelAnswer}, x.map f = some answer → ∃ y, f y = answer :=
    fun hx => (Option.map_eq_some_iff.1 hx).imp fun _ hy => hy.2
  have hite : ∀ {c : Prop} [Decidable c] {a : ReelAnswer}, (if c then some a else none) = some answer → a = answer :=
    fun hx => Option.some.inj (Option.ite_none_right_eq_some.1 hx).2
  unfold ReelAnswer.ofBytes at h
  split at h
  · cases h
  · split at h
    next => obtain ⟨_, rfl⟩ := hmap h; rfl
    next => rw [← hite h]; rfl
    next => obtain ⟨_, rfl⟩ := hmap h; rfl
    next => rw [← hite h]; rfl
    next => rw [← hite h]; rfl
    next => rw [← hite h]; rfl
    next => rw [← hite h]; rfl
    next => cases h

theorem keepsSettled_imageArrived (h : NoLot s.lot.state) (bytes : Vector Byte 128) (tagPasses : Bool) :
    KeepsSettled s (s.imageArrived bytes tagPasses) := by
  unfold State.imageArrived
  split
  · split
    · exact keepsSettled_finish _ _
    · exact keepsSettled_freePort_failLoad h .format
  · exact keepsSettled_freePort_failLoad h .tag

theorem keepsSettled_pageFailed (s : State) : KeepsSettled s s.pageFailed := by
  unfold State.pageFailed
  split
  · exact Unmoved.keepsSettled ⟨rfl, rfl, fun _ _ => rfl⟩
  · exact keepsSettled_finish _ _

theorem keepsSettled_pageStored (s : State) : KeepsSettled s s.pageStored := by
  unfold State.pageStored
  split <;> exact keepsSettled_finish _ _

/-- An answer taken, where an answer to IMAGE finds no lot (R46). -/
theorem keepsSettled_takeAnswer {answer : ReelAnswer} (h : answerPort answer = .image → NoLot s.lot.state)
    (tagPasses : Bool) : KeepsSettled s (s.takeAnswer tagPasses answer) := by
  cases answer with
  | image bytes => exact keepsSettled_imageArrived (h rfl) bytes tagPasses
  | absent => exact keepsSettled_freePort_failLoad (h rfl) .absent
  | record bytes => exact keepsSettled_finish _ _
  | endOfReel => exact keepsSettled_finish _ _
  | appendOk => exact keepsSettled_pageStored s
  | appendFail => exact keepsSettled_pageFailed s
  | appendFull => exact keepsSettled_finish _ _

/-- After a reset nothing is wanted, and no condition holds (R22, R156). -/
theorem keepsSettled_resetBy (s : State) (c : ResetCause) : KeepsSettled s (s.resetBy c) := by
  refine ⟨fun _ => settled_of_noLot (.inl rfl), fun _ src _ hsrc _ => ?_⟩
  cases src
  case halt | logFull | poolLow => rfl
  all_goals cases hsrc

/-! ### Every row, every step -/

/-- The state that a row goes to. -/
theorem keepsSettled_of_next (hu : (.next v : Host.Outcome State Fault Refusal) = .next u) (h : KeepsSettled s v) :
    KeepsSettled s u := by
  cases hu
  exact h

/-- What the rows need of a coherent state: no lot while IMAGE is on the port, and keys only in contact. -/
structure RowsReady (s : State) : Prop where
  image : s.supply.port = .image → NoLot s.lot.state
  contact : KeysInContact s

theorem rowsReady_of_coherent (h : s.Coherent) : RowsReady s where
  image hport := by
    obtain ⟨-, -, -, hloading, -⟩ := h.lot
    exact .inr (.inl (hloading.1 hport))
  contact := keysInContact_of_coherent h

theorem keepsSettled_exec_dieResponse (n : Site) (statusByte : Byte) (data : List Byte)
    (hu : exec (.dieResponse n statusByte data) s = .next u) : KeepsSettled s u := by
  refine keepsSettled_of_next hu ?_
  split
  · split
    · exact keepsSettled_endTransaction s n _ _ _
    · exact (unmoved_setLane s n _).keepsSettled
  · exact ((unmoved_raiseExc s n .late).trans (unmoved_setLane _ n _)).keepsSettled
  · exact (unmoved_raiseExc s n .late).keepsSettled
  · exact (unmoved_raiseExc s n .late).keepsSettled

theorem keepsSettled_exec_contactFall (n : Site) (hu : exec (.contactFall n) s = .next u) : KeepsSettled s u := by
  refine keepsSettled_of_next hu ?_
  split
  · exact .refl s
  · exact (unmoved_setTimers s n _).keepsSettled
  · exact ((unmoved_setTimers s n _).keepsSettled.trans (keepsSettled_laneLoss _ n)).trans (keepsSettled_siteLoss _ n)

theorem keepsSettled_exec_reelPresentFall (hu : exec .reelPresentFall s = .next u) : KeepsSettled s u := by
  have habsent := (unmoved_reelDebouncer s .absent).keepsSettled
  refine keepsSettled_of_next hu ?_
  split
  · exact .refl s
  · exact habsent
  · exact habsent.trans (keepsSettled_reelRemoval _)

theorem keepsSettled_exec_imageAnswer (h : RowsReady s) (answer : ImageAnswer)
    (hu : exec (.imageAnswer answer) s = .next u) : KeepsSettled s u := by
  refine keepsSettled_of_next hu (.ite_of fun hport => ?_)
  split <;> exact keepsSettled_takeAnswer (fun _ => h.image hport) _

theorem keepsSettled_exec_fetchAnswer (answer : FetchAnswer) (hu : exec (.fetchAnswer answer) s = .next u) :
    KeepsSettled s u := by
  refine keepsSettled_of_next hu (.ite_of fun _ => ?_)
  split <;> exact keepsSettled_finish _ _

theorem keepsSettled_exec_unwrapCompletion (r : UnwrapResult) (hu : exec (.unwrapCompletion r) s = .next u) :
    KeepsSettled s u := by
  refine keepsSettled_of_next hu ?_
  split
  · exact .refl s
  · split
    · exact keepsSettled_finish _ _
    · split <;> exact keepsSettled_finish _ _

theorem keepsSettled_exec_reelSilent (h : RowsReady s) (hu : exec .reelSilent s = .next u) : KeepsSettled s u := by
  refine keepsSettled_of_next hu ?_
  split
  · exact .refl s
  · next hport => exact keepsSettled_freePort_failLoad (h.image hport) .reel
  · exact keepsSettled_finish _ _
  · exact keepsSettled_finish _ _

theorem keepsSettled_exec_discardedReelAnswer (h : RowsReady s) (b : ReelBytes)
    (hu : exec (.discardedReelAnswer b) s = .next u) : KeepsSettled s u := by
  refine keepsSettled_of_next hu (.ite_of fun _ => ?_)
  split
  · next answer hanswer =>
    exact keepsSettled_takeAnswer (fun himage => h.image ((answerPort_of_ofBytes hanswer).symm.trans himage)) _
  · exact .refl s

theorem keepsSettled_exec (h : RowsReady s) (c : Instr) (hu : exec c s = .next u) : KeepsSettled s u := by
  cases c with
  | dalRequest n kindByte address data => exact keepsSettled_of_next hu (keepsSettled_request s n _ _ _)
  | dieResponse n statusByte data => exact keepsSettled_exec_dieResponse n statusByte data hu
  | responseTimerExpiry n => exact keepsSettled_of_next hu (.ite_of fun _ => keepsSettled_responseExpired s n)
  | quietTimerExpiry n => exact keepsSettled_of_next hu (.ite_of fun _ => keepsSettled_quietExpired s n)
  | tick => exact keepsSettled_of_next hu (keepsSettled_tick h.contact)
  | contactRise n => exact keepsSettled_of_next hu (.ite_of fun _ => (unmoved_setTimers s n _).keepsSettled)
  | contactDebounceComplete n =>
    refine keepsSettled_of_next hu (.ite_of fun hlast => keepsSettled_establish (h.contact.binding_none ?_))
    exact fun hestablished => ne_established_of_reached hlast (by rw [hestablished]; rfl)
  | contactFall n => exact keepsSettled_exec_contactFall n hu
  | keyWaitExpiry n => exact keepsSettled_of_next hu (.ite_of fun _ => keepsSettled_keyWaitExpired s n)
  | dwellExpiry n => exact keepsSettled_of_next hu (.ite_of fun _ => keepsSettled_finish _ _)
  | programWatchdogExpiry n => exact keepsSettled_of_next hu (.ite_of fun _ => keepsSettled_finish _ _)
  | reelPresentRise =>
    exact keepsSettled_of_next hu (.ite_of fun _ => (unmoved_reelDebouncer s .settling).keepsSettled)
  | reelDebounceEnd =>
    exact keepsSettled_of_next hu (.ite_of fun _ =>
      (unmoved_reelDebouncer s .present).keepsSettled.trans (keepsSettled_reelArrival _))
  | reelPresentFall => exact keepsSettled_exec_reelPresentFall hu
  | imageAnswer answer => exact keepsSettled_exec_imageAnswer h answer hu
  | fetchStart => exact keepsSettled_of_next hu (.ite_of fun _ => keepsSettled_finish _ _)
  | fetchAnswer answer => exact keepsSettled_exec_fetchAnswer answer hu
  | unwrapCompletion r => exact keepsSettled_exec_unwrapCompletion r hu
  | appendStart => exact keepsSettled_of_next hu (.ite_of fun _ => keepsSettled_finish _ _)
  | appendOk => exact keepsSettled_of_next hu (.ite_of fun _ => keepsSettled_pageStored s)
  | appendFail => exact keepsSettled_of_next hu (.ite_of fun _ => keepsSettled_pageFailed s)
  | appendFull => exact keepsSettled_of_next hu (.ite_of fun _ => keepsSettled_finish _ _)
  | reelSilent => exact keepsSettled_exec_reelSilent h hu
  | discardedReelAnswer b => exact keepsSettled_exec_discardedReelAnswer h b hu
  | unusedSpoil => exact keepsSettled_of_next hu (.ite_of fun _ => keepsSettled_finish _ _)
  | closeRecord => exact keepsSettled_of_next hu (.ite_of fun _ => keepsSettled_finish _ _)
  | load n => exact keepsSettled_of_next hu (keepsSettled_onIdleLane n (keepsSettled_cmdLoad s n))
  | close n => exact keepsSettled_of_next hu (keepsSettled_onIdleLane n (keepsSettled_cmdClose s n))
  | release n arg => exact keepsSettled_of_next hu (keepsSettled_onIdleLane n (keepsSettled_cmdRelease s n arg))
  | lowest n arg => exact keepsSettled_of_next hu (keepsSettled_onIdleLane n (keepsSettled_cmdLowest s n arg))
  | mask n arg on => exact keepsSettled_of_next hu (keepsSettled_onIdleLane n (unmoved_cmdMask s n arg on).keepsSettled)
  | clearChecked n arg =>
    exact keepsSettled_of_next hu (keepsSettled_onIdleLane n (keepsSettled_cmdClearChecked s n arg))
  | clearUnchecked n arg =>
    exact keepsSettled_of_next hu (keepsSettled_onIdleLane n (keepsSettled_cmdClearUnchecked s n arg))
  | alertTake n => exact keepsSettled_of_next hu (keepsSettled_onIdleLane n (keepsSettled_takeAlert s n))
  | alertEndNonSpecific n => exact keepsSettled_of_next hu (keepsSettled_onIdleLane n (keepsSettled_endAlert s n))
  | alertEndSpecific n source =>
    exact keepsSettled_of_next hu (keepsSettled_onIdleLane n (keepsSettled_endAlertOf s n _))
  | alertMask n data =>
    exact keepsSettled_of_next hu (keepsSettled_onIdleLane n (unmoved_alertMaskWrite s n data).keepsSettled)
  | exceptionMask n data =>
    exact keepsSettled_of_next hu (keepsSettled_onIdleLane n (unmoved_excMaskWrite s n data).keepsSettled)
  | viewSelect n page index =>
    exact keepsSettled_of_next hu (keepsSettled_onIdleLane n (unmoved_selectView s n page index).keepsSettled)
  | viewData n => exact keepsSettled_of_next hu (keepsSettled_onIdleLane n (unmoved_readView s n).keepsSettled)
  | tallyLatch n => exact keepsSettled_of_next hu (keepsSettled_onIdleLane n (unmoved_latchTallies s n).keepsSettled)
  | tally n which => exact keepsSettled_of_next hu (keepsSettled_onIdleLane n (unmoved_readTally s n which).keepsSettled)
  | claimWordWrite n word data =>
    exact keepsSettled_of_next hu (keepsSettled_onIdleLane n (keepsSettled_claimWrite s n word data))
  | powerOn => exact keepsSettled_of_next hu (keepsSettled_resetBy s .power)
  | resetLine => exact keepsSettled_of_next hu (keepsSettled_resetBy s .line)

theorem keepsSettled_step (h : RowsReady s) (hu : step s = .next u) : KeepsSettled s u := by
  unfold step at hu
  split at hu
  · exact keepsSettled_of_next hu (.refl s)
  · next c rest _ =>
    have htaken : KeepsSettled s { s with pending := rest } := Unmoved.keepsSettled ⟨rfl, rfl, fun _ _ => rfl⟩
    exact htaken.trans (keepsSettled_exec (s := { s with pending := rest }) ⟨h.image, h.contact⟩ c hu)

end

/-- Settles O59: each row of a coherent state keeps the part settled. -/
theorem stepKeepsSettled : Obligations.StepKeepsSettled := fun _ _ hcoherent hstep =>
  have h := keepsSettled_step (rowsReady_of_coherent hcoherent) hstep
  ⟨h.settled, h.follow⟩

end Sys2Proof.Machine.ReelSupply
end

section
/-! The serials of the keys held (R67): what each operation does to them, row by row. A row moves a key, drops it, or
accepts one above all that are held. -/

namespace Sys2Proof.Machine.KeyPool

open LotStates

/-! ## Serials held (R67) -/

/-- A site context holds the key of serial `x`. -/
def holds (x : Serial) (c : SiteContext) : Bool := c.binding.map Binding.serial == some x

/-- `heldIn` by the deque and the sites it is read from. -/
def heldIn (deque : List KeyEntry) (sites : PerSite SiteContext) : List Serial :=
  deque.map KeyEntry.serial ++ sites.toList.filterMap fun c => c.binding.map Binding.serial

/-- How often a serial is held: in the deque and at the sites. -/
theorem count_heldIn (deque : List KeyEntry) (sites : PerSite SiteContext) (x : Serial) :
    (heldIn deque sites).count x = (deque.map KeyEntry.serial).count x + sites.toList.countP (holds x) := by
  rw [heldIn, List.count_append, List.count_filterMap]
  rfl

/-- One site context replaced: the serial of the old one is held once less, that of the new one once more. -/
theorem count_heldIn_set (deque : List KeyEntry) (sites : PerSite SiteContext) (n : Site) (c : SiteContext)
    (x : Serial) :
    (heldIn deque (sites.set n c)).count x + (if holds x sites[n] then 1 else 0) =
      (heldIn deque sites).count x + (if holds x c then 1 else 0) := by
  rw [count_heldIn, count_heldIn]
  have := countP_toList_set (holds x) sites n c
  omega

/-- R67 on the serials held and the highest accepted serial alone: what leaves these two as they are keeps it. -/
def Apart (held : List Serial) (highest : Option Serial) : Prop :=
  held.Nodup ∧ ∀ x ∈ held, ∃ h ∈ highest, x.toNat ≤ h.toNat

/-- No serial is held twice, and none held is above the highest accepted serial. -/
def SerialsApart (s : State) : Prop := Apart (heldIn s.pool.deque s.sites) s.pool.highest

theorem serialsApart_iff (s : State) : SerialsApart s ↔ s.SerialsOk := Iff.rfl

section

variable {s u : State} {n : Site} {held kept : List Serial} {highest : Option Serial}

theorem apart_nil : Apart [] highest := ⟨List.nodup_nil, fun _ hx => nomatch hx⟩

/-- No serial is held more often than before. -/
theorem Apart.of_count_le (h : Apart held highest) (hle : ∀ x, kept.count x ≤ held.count x) : Apart kept highest :=
  have hsub : kept.Subperm held := List.subperm_iff_count.2 hle
  ⟨List.nodup_iff_count_le_one.2 fun x => (hle x).trans (List.nodup_iff_count_le_one.1 h.1 x),
    fun x hx => h.2 x (hsub.subset hx)⟩

/-- A site context that holds no key, or the key of the old one. -/
theorem SerialsApart.setSite (h : SerialsApart s) {c : SiteContext}
    (hc : c.binding = none ∨ c.binding.map Binding.serial = s.sites[n].binding.map Binding.serial) :
    SerialsApart (s.setSite n c) := by
  refine Apart.of_count_le h fun x => ?_
  have hcount := count_heldIn_set s.pool.deque s.sites n c x
  have hle : (if holds x c then 1 else 0) ≤ (if holds x s.sites[n] then 1 else 0) := by
    rcases hc with hnone | hsame
    · simp [holds, hnone]
    · rw [holds, holds, hsame]
  rw [State.setSite_pool, State.setSite_sites]
  omega

/-- A key bound that is held nowhere else. -/
theorem serialsApart_bindKey {e : KeyEntry} (h : Apart (e.serial :: heldIn s.pool.deque s.sites) s.pool.highest)
    (o : Fin 8) : SerialsApart (s.bindKey n e o) := by
  refine Apart.of_count_le h fun x => ?_
  have hcount := count_heldIn_set s.pool.deque s.sites n { s.sites[n] with
    state := .staging
    binding := some ⟨e.serial, e.key, e.check, Vector.replicate 8 false, false, some o⟩
    attempts := 0
    capture := Vector.replicate 2 none
    suspect := false } x
  have hbound : (heldIn s.pool.deque (s.bindKey n e o).sites).count x + (if holds x s.sites[n] then 1 else 0) =
      (heldIn s.pool.deque s.sites).count x + (if e.serial == x then 1 else 0) := hcount
  show (heldIn s.pool.deque (s.bindKey n e o).sites).count x ≤ _
  rw [List.count_cons]
  omega

/-- A key that becomes available and is held nowhere else: bound at a waiting site, or in the deque (R73). -/
theorem serialsApart_deliver {e : KeyEntry} (h : Apart (e.serial :: heldIn s.pool.deque s.sites) s.pool.highest)
    (front : Bool) : SerialsApart (s.deliver e front) := by
  rcases deliver_cases s e front with ⟨n, -, heq⟩ | ⟨-, heq⟩ <;> rw [heq]
  · exact serialsApart_bindKey (s := { (s.setWaiting n false).stopKeyWait n with pool := _ }) h _
  · refine Apart.of_count_le h fun x => le_of_eq ?_
    rw [count_heldIn, List.count_cons, count_heldIn]
    cases front <;> simp [List.count_cons] <;> omega

/-! ### The end of an event (R37, R58) -/

theorem SerialsApart.spoilUnused (h : SerialsApart s) : SerialsApart s.spoilUnused := by
  rcases List.eq_nil_or_concat s.pool.deque with hnil | ⟨kept, e, hback⟩
  · rw [State.spoilUnused, hnil]
    exact h
  · rw [List.concat_eq_append] at hback
    rw [spoilUnused_eq hback]
    refine Apart.of_count_le h fun x => ?_
    rw [count_heldIn, count_heldIn, hback]
    simp

theorem SerialsApart.finish (h : SerialsApart s) : SerialsApart s.finish :=
  finish_induct (P := SerialsApart) (fun _ h _ _ => h) (fun _ h _ _ => h) (fun _ h _ => h.spoilUnused)
    (fun _ h _ _ => h) (fun _ h => h) s h

/-- What acts where its condition holds. -/
theorem SerialsApart.ite_of (h : SerialsApart s) {c : Prop} [Decidable c] (hu : c → SerialsApart u) :
    SerialsApart (if c then u else s) := by
  split
  · next hc => exact hu hc
  · exact h

/-! ### Keys (04, 05) -/

theorem SerialsApart.endBinding (h : SerialsApart s) (next : SiteState) (last : LastOutcome) :
    SerialsApart (s.endBinding n next last) :=
  h.setSite (.inl rfl)

/-- The key of a binding that ends is held nowhere else (R102). -/
theorem SerialsApart.endBinding_cons (h : SerialsApart s) {b : Binding} (hb : s.sites[n].binding = some b)
    (next : SiteState) (last : LastOutcome) :
    Apart (b.serial :: heldIn s.pool.deque (s.endBinding n next last).sites) s.pool.highest := by
  refine Apart.of_count_le h fun x => le_of_eq ?_
  have hcount := count_heldIn_set s.pool.deque s.sites n { s.sites[n] with
    state := next, binding := none, capture := Vector.replicate 2 none, suspect := false, lastOutcome := last } x
  have hended : (heldIn s.pool.deque (s.endBinding n next last).sites).count x + (if b.serial == x then 1 else 0) =
      (heldIn s.pool.deque s.sites).count x := by
    rw [holds, hb] at hcount
    exact hcount
  rw [List.count_cons, hended]

theorem SerialsApart.spoil (h : SerialsApart s) (r : SpoilReason) (next : SiteState) :
    SerialsApart (s.spoil n r next) := by
  unfold State.spoil
  split
  · exact h
  · exact h.endBinding next (.spoil r)

theorem SerialsApart.commit (h : SerialsApart s) : SerialsApart (s.commit n) := by
  unfold State.commit
  split
  · exact h
  · exact h.endBinding .finished .commit

theorem SerialsApart.returnKey (h : SerialsApart s) (next : SiteState) : SerialsApart (s.returnKey n next) := by
  unfold State.returnKey
  split
  · exact h
  · next b hb =>
    exact serialsApart_deliver (s := (s.endBinding n next .returned).releaseRes) (e := ⟨b.serial, b.key, b.check⟩)
      (h.endBinding_cons hb next .returned) true

theorem SerialsApart.endStaging (h : SerialsApart s) (r : SpoilReason) (spoiled returned : SiteState) :
    SerialsApart (s.endStaging n r spoiled returned) := by
  unfold State.endStaging
  split
  · exact h
  · split
    · exact h.spoil r spoiled
    · exact h.returnKey returned

theorem SerialsApart.blank (h : SerialsApart s) : SerialsApart (s.blank n) :=
  SerialsApart.setSite (s := (s.useRes _).raiseTally .blanked) h (.inr (by rfl))

/-! ### The lot (02) -/

theorem SerialsApart.leaveOpen (h : SerialsApart s) : SerialsApart s.leaveOpen :=
  leaveOpen_induct (P := SerialsApart) (fun _ _ hu _ => hu) s h

theorem SerialsApart.freePort (h : SerialsApart s) : SerialsApart s.freePort := h

theorem SerialsApart.endDraw (h : SerialsApart s) : SerialsApart s.endDraw := by
  unfold State.endDraw
  split <;> exact h

theorem SerialsApart.halt (h : SerialsApart s) (c : HaltCause) : SerialsApart (s.halt c) := by
  unfold State.halt
  split
  · have hleft : SerialsApart s.leaveOpen.freePort.endDraw := h.leaveOpen.freePort.endDraw
    generalize s.leaveOpen.freePort.endDraw = u at hleft ⊢
    exact hleft
  · exact h

theorem SerialsApart.enterLoading (h : SerialsApart s) : SerialsApart s.enterLoading := by
  unfold State.enterLoading
  split <;> exact h

/-- No key is held where the deque is empty and no site holds one. -/
theorem heldIn_eq_nil (hdeque : s.pool.deque = []) (hsites : ∀ m : Site, s.sites[m].binding = none) :
    heldIn s.pool.deque s.sites = [] := by
  have hnone : ∀ c ∈ s.sites.toList, c.binding.map Binding.serial = none := by
    intro c hc
    obtain ⟨i, hi, rfl⟩ := List.mem_iff_getElem.1 hc
    have hbinding := hsites ⟨i, by simpa using hi⟩
    simpa using hbinding
  rw [heldIn, hdeque, List.filterMap_eq_nil_iff.2 hnone]
  rfl

/-- Where no key is held, none is held twice. -/
theorem serialsApart_of_no_key (hdeque : s.pool.deque = []) (hsites : ∀ m : Site, s.sites[m].binding = none) :
    SerialsApart s := by
  rw [SerialsApart, heldIn_eq_nil hdeque hsites]
  exact apart_nil

/-- Lot open leaves no key from before (R33). -/
theorem serialsApart_lotOpen (s : State) (im : LotImage) : SerialsApart (s.lotOpen im) := by
  refine serialsApart_of_no_key rfl fun m => ?_
  have hsite : (s.lotOpen im).sites[m] = SiteContext.atOpen s.timers[m].debouncer := perSite_ofFn _ m
  rw [hsite]
  cases s.timers[m].debouncer <;> rfl

/-- Reset leaves no key (R22). -/
theorem serialsApart_resetBy (s : State) (c : ResetCause) : SerialsApart (s.resetBy c) := by
  refine serialsApart_of_no_key rfl fun m => ?_
  have hsite : (s.resetBy c).sites[m] = SiteContext.default := perSite_replicate _ m
  rw [hsite]
  rfl

/-! ### Requests (01, 05) -/

/-- The front key leaves the deque for the site (R68). -/
theorem SerialsApart.bindClaim (h : SerialsApart s) (t : Transaction) : SerialsApart (s.bindClaim n t) := by
  unfold State.bindClaim
  split
  · exact h
  · split
    · next e rest hdeque =>
      have hfront : Apart (e.serial :: heldIn rest s.sites)
          s.pool.highest := by
        rw [SerialsApart, heldIn, hdeque] at h
        exact h
      have hbound : SerialsApart (State.bindKey { s with pool := { s.pool with deque := rest } }.lend n e
          t.stageOffset) := serialsApart_bindKey hfront _
      exact SerialsApart.finish (s := State.forward _ n _ _) hbound
    · split
      · exact SerialsApart.finish (s := State.setLane _ n _) h
      · split
        · exact SerialsApart.finish (s := State.forward _ n _ _)
            (SerialsApart.blank (s := (s.raiseExc n .keyless).lend) h)
        · exact SerialsApart.finish (s := State.answer _ n .refused _) h

theorem SerialsApart.stageWrite (h : SerialsApart s) (t : Transaction) : SerialsApart (s.stageWrite n t) := by
  unfold State.stageWrite
  split
  · unfold State.bindTrigger
    split
    · exact h
    · split
      · exact h
      · exact h.bindClaim t
  · split
    · exact h
    · next b hb => exact h.setSite (.inr (by rw [hb]; rfl))
  all_goals exact h

theorem SerialsApart.armWrite (h : SerialsApart s) (t : Transaction) : SerialsApart (s.armWrite n t) := by
  unfold State.armWrite
  split
  · exact h.setSite (.inr (by rfl))
  · exact h

theorem SerialsApart.byRole (h : SerialsApart s) (t : Transaction) (data : Word) :
    SerialsApart (s.byRole n t data) := by
  unfold State.byRole
  split
  · exact h
  · exact h
  iterate 3 split <;> exact h
  · split
    · exact h
    · exact h.stageWrite t
  · split
    · exact h
    · split
      · exact h.armWrite t
      · exact h
  · exact h

/-! ### Outcomes (R83 to R99) -/

theorem SerialsApart.identOutcome (h : SerialsApart s) (offset : Nat) (o : DieOutcome) :
    SerialsApart (s.identOutcome n offset o) := by
  unfold State.identOutcome
  split
  · exact h.setSite (.inr (by rfl))
  · exact h

/-- An outcome changes what is known of a binding's words, not whose key it is (R89). -/
theorem stageOutcome_serial (b : Binding) (offset : Fin 8) (o : DieOutcome) :
    (b.stageOutcome offset o).serial = b.serial := by
  cases o <;> rfl

theorem SerialsApart.stageOutcome (h : SerialsApart s) (offset : Nat) (o : DieOutcome) :
    SerialsApart (s.stageOutcome n offset o) := by
  unfold State.stageOutcome
  split
  · exact h
  · next b hb =>
    refine h.ite_of fun _ => h.setSite (.inr ?_)
    rw [hb, Option.map_some, Option.map_some, stageOutcome_serial]

theorem SerialsApart.setTimers (h : SerialsApart s) (t : SiteTimers) : SerialsApart (s.setTimers n t) := h

theorem SerialsApart.backToStaging (h : SerialsApart s) : SerialsApart (s.backToStaging n) :=
  (h.setSite (.inr (by rfl))).setTimers _

theorem SerialsApart.armOutcome (h : SerialsApart s) (o : DieOutcome) : SerialsApart (s.armOutcome n o) := by
  by_cases harmed : s.sites[n].state = .armed
  · have hcounted : SerialsApart (s.setSite n { s.sites[n] with attempts := s.sites[n].attempts + 1 }) :=
      h.setSite (.inr (by rfl))
    unfold State.armOutcome
    rw [harmed]
    cases o with
    | nak => exact h.backToStaging
    | ok data => exact hcounted
    | timeout => exact hcounted
  · rw [armOutcome_of_ne_armed harmed]
    exact h

theorem SerialsApart.statusOutcome (h : SerialsApart s) (o : DieOutcome) : SerialsApart (s.statusOutcome n o) := by
  unfold State.statusOutcome
  split
  · split
    · exact (h.setSite (.inr (by rfl))).setTimers _
    · refine h.ite_of fun _ => ?_
      unfold State.statusFail
      split
      · exact h.backToStaging
      · exact (SerialsApart.spoil (h.setSite (.inr (by rfl))) .burn .fault).finish
  · exact h

theorem SerialsApart.checkOutcome (h : SerialsApart s) (offset : Nat) (o : DieOutcome) :
    SerialsApart (s.checkOutcome n offset o) := by
  unfold State.checkOutcome
  split
  · have hcaptured : ∀ c, SerialsApart (s.setSite n { s.sites[n] with capture := c }) := fun _ =>
      h.setSite (.inr (by rfl))
    unfold State.compareCheck
    split
    · split
      · exact (hcaptured _).commit.finish
      · exact ((hcaptured _).spoil .mismatch .fault).finish
    · exact hcaptured _
  · exact h

theorem SerialsApart.outcome (h : SerialsApart s) (t : Transaction) (o : DieOutcome) :
    SerialsApart (s.outcome n t o) := by
  refine h.ite_of fun _ => ?_
  unfold State.outcomeByRole
  split
  · exact h.identOutcome _ o
  · exact h.stageOutcome _ o
  · exact h.ite_of fun _ => h.armOutcome o
  · exact h.statusOutcome o
  · exact h.checkOutcome _ o
  all_goals exact h

theorem SerialsApart.endTransaction (h : SerialsApart s) (t : Transaction) (st : Status) (data : Word) :
    SerialsApart (s.endTransaction n t st data) :=
  h.ite_of fun _ => h.outcome t _

/-! ### Contact and expiries (R104, R105, R111 to R124) -/

theorem SerialsApart.establish (h : SerialsApart s) : SerialsApart (s.establish n) :=
  SerialsApart.setSite (s := s.setTimers n _) h (.inl rfl)

theorem SerialsApart.laneLoss (h : SerialsApart s) : SerialsApart (s.laneLoss n) := by
  unfold State.laneLoss
  split <;> exact h

theorem SerialsApart.vacate (h : SerialsApart s) : SerialsApart (s.vacate n) := h.setSite (.inr (by rfl))

theorem SerialsApart.siteLoss (h : SerialsApart s) : SerialsApart (s.siteLoss n) := by
  unfold State.siteLoss
  split
  iterate 4 exact h.vacate
  · split
    · exact SerialsApart.finish (SerialsApart.vacate (s := ((s.setWaiting n false).stopKeyWait n).releaseRes) h)
    · exact h.vacate
  · exact (h.endStaging .lift .vacant .vacant).finish
  · exact (h.spoil .lift .vacant).finish
  · exact (h.spoil .lift .vacant).finish

theorem SerialsApart.keyWaitExpired (h : SerialsApart s) : SerialsApart (s.keyWaitExpired n) := by
  have hleft : SerialsApart (((s.stopKeyWait n).setWaiting n false).raiseExc n .keyless) := h
  unfold State.keyWaitExpired
  split
  · split
    · exact SerialsApart.finish (s := State.forward _ n _ _) hleft.blank
    · exact SerialsApart.finish (s := State.setLane _ n _) hleft
  · exact h

theorem SerialsApart.dwellExpired (h : SerialsApart s) : SerialsApart (s.dwellExpired n) :=
  (SerialsApart.endStaging (s := s.stopBurnTimers n) h .dwell .fault .ready).finish

theorem SerialsApart.watchdogExpired (h : SerialsApart s) : SerialsApart (s.watchdogExpired n) :=
  (SerialsApart.spoil (s := s.stopBurnTimers n) h .stall .fault).finish

theorem SerialsApart.responseExpired (h : SerialsApart s) : SerialsApart (s.responseExpired n) := by
  have hraised : SerialsApart ((s.answer n .timeout).raiseExc n .timeout) := h
  unfold State.responseExpired
  split
  · exact hraised.ite_of fun _ => hraised.outcome _ .timeout
  · exact hraised

theorem SerialsApart.expireAt (h : SerialsApart s) (n : Site) : SerialsApart (s.expireAt n) := by
  unfold State.expireAt
  extract_lets s1 s2 s3 s4
  have h1 : SerialsApart s1 := h.ite_of fun _ => h.establish
  have h2 : SerialsApart s2 := h1.ite_of fun _ => h1.keyWaitExpired
  have h3 : SerialsApart s3 := h2.ite_of fun _ => h2.dwellExpired
  have h4 : SerialsApart s4 := h3.ite_of fun _ => h3.watchdogExpired
  refine h4.ite_of fun _ => ?_
  split
  · exact h4.responseExpired
  all_goals exact h4

theorem SerialsApart.expireAll (h : SerialsApart s) (sites : List Site) :
    SerialsApart (sites.foldl State.expireAt s) := by
  induction sites generalizing s with
  | nil => exact h
  | cons n sites ih => exact ih (h.expireAt n)

/-! ### The claim window (10): no word but COMMAND touches a key -/

theorem SerialsApart.answer (h : SerialsApart s) (st : Status) (d : Option Word) : SerialsApart (s.answer n st d) := h

theorem SerialsApart.cmdLoad (h : SerialsApart s) : SerialsApart (s.cmdLoad n) := by
  have hloading : SerialsApart s.enterLoading := h.enterLoading
  unfold State.cmdLoad
  split
  · split
    · exact hloading
    · exact h
  · split
    · exact hloading
    · exact h
  all_goals exact h

theorem SerialsApart.cmdClose (h : SerialsApart s) : SerialsApart (s.cmdClose n) := by
  unfold State.cmdClose
  split
  · have hleft : SerialsApart s.leaveOpen := h.leaveOpen
    generalize s.leaveOpen = u at hleft ⊢
    exact SerialsApart.finish (s := State.answer { u with lot := _ } n .ok) hleft
  · exact h

theorem SerialsApart.withSiteArg (h : SerialsApart s) (arg : Byte) {f : Site → State}
    (hf : ∀ m, SerialsApart (f m)) : SerialsApart (s.withSiteArg n arg f) := by
  unfold State.withSiteArg
  split
  · split
    · exact hf _
    · exact h
  · exact h

theorem SerialsApart.releaseSite (h : SerialsApart s) (m : Site) : SerialsApart (s.releaseSite n m) := by
  have hspoiled : SerialsApart (s.spoil m .release .finished) := h.spoil .release .finished
  unfold State.releaseSite
  split
  · exact h
  · exact h
  · split
    · exact SerialsApart.finish (s := State.answer (s.dropHeld m .refused) n .ok) h
    · exact h
  · exact SerialsApart.finish (s := State.answer _ n .ok) (h.endStaging .release .finished .ready)
  · exact h.setSite (.inr (by rfl))
  · exact h.setSite (.inr (by rfl))
  · exact SerialsApart.finish (s := State.answer _ n .ok) hspoiled
  · exact SerialsApart.finish (s := State.answer _ n .ok) hspoiled

theorem SerialsApart.cmdRelease (h : SerialsApart s) (arg : Byte) : SerialsApart (s.cmdRelease n arg) :=
  h.withSiteArg arg h.releaseSite

theorem SerialsApart.cmdMask (h : SerialsApart s) (arg : Byte) (on : Bool) : SerialsApart (s.cmdMask n arg on) := by
  unfold State.cmdMask
  split
  · split <;> exact h
  · exact h

theorem SerialsApart.cmdClearChecked (h : SerialsApart s) (arg : Byte) : SerialsApart (s.cmdClearChecked n arg) :=
  h.withSiteArg arg fun m => by split <;> exact h

theorem SerialsApart.leaveService (h : SerialsApart s) (src : Source) : SerialsApart (s.leaveService src) := by
  unfold State.leaveService
  dsimp only
  split <;> exact h

theorem SerialsApart.takeAlert (h : SerialsApart s) : SerialsApart (s.takeAlert n) := by
  unfold State.takeAlert
  split
  · exact h
  · next src _ =>
    dsimp only
    split
    · refine SerialsApart.answer (SerialsApart.leaveService ?_ src) .ok _
      exact h
    · exact h

theorem SerialsApart.endAlert (h : SerialsApart s) : SerialsApart (s.endAlert n) := by
  unfold State.endAlert
  split
  · exact h
  · exact h.leaveService _

theorem SerialsApart.endAlertOf (h : SerialsApart s) (src : Source) : SerialsApart (s.endAlertOf n src) := by
  unfold State.endAlertOf
  split
  · exact h.leaveService src
  · exact h

theorem SerialsApart.selectView (h : SerialsApart s) (page : BitVec 4) (index : Byte) :
    SerialsApart (s.selectView n page index) := by
  unfold State.selectView
  split
  · split <;> exact h
  · exact h

theorem SerialsApart.latchTallies (h : SerialsApart s) : SerialsApart (s.latchTallies n) := by
  unfold State.latchTallies
  split <;> exact h

theorem SerialsApart.readTally (h : SerialsApart s) (t : Tally) : SerialsApart (s.readTally n t) := by
  unfold State.readTally
  dsimp only
  split
  · exact h
  · split <;> exact h

theorem SerialsApart.commandWrite (h : SerialsApart s) (data : Word) : SerialsApart (s.commandWrite n data) := by
  unfold State.commandWrite
  dsimp only
  split
  · exact h.cmdLoad
  · exact h.cmdClose
  · exact h.cmdRelease _
  · exact h.withSiteArg _ fun _ => h
  · exact h.cmdMask _ _
  · exact h.cmdClearChecked _
  · exact h.withSiteArg _ fun _ => h
  · exact h

theorem SerialsApart.claimRead (h : SerialsApart s) (word : Fin 16) : SerialsApart (s.claimRead n word) := by
  unfold State.claimRead
  split
  case h_4 => exact h.takeAlert
  case h_11 | h_12 | h_13 | h_14 | h_15 => exact h.readTally _
  all_goals exact h

theorem SerialsApart.claimWrite (h : SerialsApart s) (word : Fin 16) (data : Word) :
    SerialsApart (s.claimWrite n word data) := by
  unfold State.claimWrite
  split
  · exact h.commandWrite data
  · unfold State.alertEndWrite
    split
    · exact h.endAlertOf _
    · exact h.endAlert
  · exact h
  · exact h
  · exact h.selectView _ _
  · exact h.latchTallies
  · exact h

theorem SerialsApart.onIdleLane (h : SerialsApart s) (hu : SerialsApart u) : SerialsApart (s.onIdleLane n u) := by
  unfold State.onIdleLane
  split
  · exact hu
  · exact h

/-- A request at a lane (R4, R17). -/
theorem SerialsApart.request (h : SerialsApart s) (k : Kind) (a : Address) (data : Word) :
    SerialsApart (s.request n k a data) := by
  have hrole : ∀ t, SerialsApart (s.byRole n t data) := fun t => h.byRole t data
  unfold State.request
  split
  · unfold State.classify
    dsimp only
    split
    · exact h
    · split
      · split
        · exact h.claimRead _
        · exact h.claimWrite _ data
      · split
        · unfold State.byLot
          split
          · exact h
          · exact h
          all_goals exact hrole _
        · exact h
  · exact h

/-! ### The reel's rows (03) -/

theorem SerialsApart.imageArrived (h : SerialsApart s) (bytes : Vector Byte 128) (tagPasses : Bool) :
    SerialsApart (s.imageArrived bytes tagPasses) := by
  unfold State.imageArrived
  split
  · split
    · exact (serialsApart_lotOpen _ _).finish
    · exact h
  · exact h

theorem SerialsApart.pageStored (h : SerialsApart s) : SerialsApart s.pageStored := by
  unfold State.pageStored
  split
  · exact SerialsApart.finish (s := s.confirmPage.closeLot) h
  · exact SerialsApart.finish (s := s.confirmPage) h

/-- A fatal supply failure while an operation is on the port (R57, R61 to R63). -/
theorem SerialsApart.abandon (h : SerialsApart s) (c : HaltCause) : SerialsApart (s.freePort.halt c).finish :=
  (SerialsApart.halt (s := s.freePort) h c).finish

theorem SerialsApart.pageFailed (h : SerialsApart s) : SerialsApart s.pageFailed := by
  unfold State.pageFailed
  split
  · exact h
  · exact h.abandon .appendFail

theorem SerialsApart.takeAnswer (h : SerialsApart s) (tagPasses : Bool) (answer : ReelAnswer) :
    SerialsApart (s.takeAnswer tagPasses answer) := by
  cases answer with
  | image bytes => exact h.imageArrived bytes tagPasses
  | absent => exact h
  | record bytes => exact SerialsApart.finish (s := { s.freePort with supply := _ }) h
  | endOfReel =>
    exact SerialsApart.finish (s := { s.freePort.endDraw with supply := _ }) (SerialsApart.endDraw (s := s.freePort) h)
  | appendOk => exact h.pageStored
  | appendFail => exact h.pageFailed
  | appendFull => exact h.abandon .logSpace

theorem SerialsApart.reelArrival (h : SerialsApart s) : SerialsApart s.reelArrival := by
  unfold State.reelArrival
  split
  · exact h.enterLoading
  all_goals exact h

theorem SerialsApart.reelRemoval (h : SerialsApart s) : SerialsApart s.reelRemoval := by
  unfold State.reelRemoval
  split
  · exact h
  · exact h
  · exact (h.halt .reelLost).finish
  · exact (h.halt .reelLost).finish
  · exact h
  · exact h

/-- A serial that passes the ORDER check is above every serial held (R55, R67). -/
theorem SerialsApart.lt_of_inOrder (h : SerialsApart s) {serial : Serial} (hserial : s.outOfOrder serial = false)
    {x : Serial} (hx : x ∈ heldIn s.pool.deque s.sites) : x.toNat < serial.toNat := by
  obtain ⟨top, htop, hle⟩ := h.2 x hx
  rw [State.outOfOrder, Option.mem_def.1 htop] at hserial
  have hlt : ¬serial.toNat ≤ top.toNat := of_decide_eq_false hserial
  omega

/-- An accepted key is above every key held, and its serial becomes the highest accepted one (R56). -/
theorem SerialsApart.acceptKey (h : SerialsApart s) {e : KeyEntry} (he : s.outOfOrder e.serial = false) :
    SerialsApart (s.acceptKey e) := by
  have hadded : Apart (e.serial :: heldIn s.pool.deque s.sites) (some e.serial) := by
    refine ⟨List.nodup_cons.2 ⟨fun hheld => ?_, h.1⟩, fun x hx => ⟨e.serial, rfl, ?_⟩⟩
    · exact absurd (h.lt_of_inOrder he hheld) (lt_irrefl _)
    · rcases List.mem_cons.1 hx with rfl | hheld
      · exact le_rfl
      · exact (h.lt_of_inOrder he hheld).le
  refine serialsApart_deliver ?_ false
  unfold State.endDraw
  split <;> exact hadded

/-! ### Every row, every step -/

/-- The state that a row goes to. -/
theorem serialsApart_of_next {v : State} (hu : (.next v : Host.Outcome State Fault Refusal) = .next u)
    (h : SerialsApart v) : SerialsApart u := by
  cases hu
  exact h

theorem SerialsApart.dieResponse (h : SerialsApart s) (statusByte : Byte) (data : List Byte)
    (hu : exec (.dieResponse n statusByte data) s = .next u) : SerialsApart u := by
  refine serialsApart_of_next hu ?_
  split
  · split
    · exact h.endTransaction _ _ _
    · exact h
  all_goals exact h

theorem SerialsApart.contactFall (h : SerialsApart s) (hu : exec (.contactFall n) s = .next u) : SerialsApart u := by
  refine serialsApart_of_next hu ?_
  split
  · exact h
  · exact h
  · exact (SerialsApart.laneLoss (s := s.setTimers n _) h).siteLoss

theorem SerialsApart.reelPresentFall (h : SerialsApart s) (hu : exec .reelPresentFall s = .next u) :
    SerialsApart u := by
  refine serialsApart_of_next hu ?_
  split
  · exact h
  · exact h
  · exact SerialsApart.reelRemoval (s := { s with supply := _ }) h

theorem SerialsApart.imageAnswer (h : SerialsApart s) (answer : ImageAnswer)
    (hu : exec (.imageAnswer answer) s = .next u) : SerialsApart u := by
  refine serialsApart_of_next hu (h.ite_of fun _ => ?_)
  split <;> exact h.takeAnswer _ _

theorem SerialsApart.fetchAnswer (h : SerialsApart s) (answer : FetchAnswer)
    (hu : exec (.fetchAnswer answer) s = .next u) : SerialsApart u := by
  refine serialsApart_of_next hu (h.ite_of fun _ => ?_)
  split <;> exact h.takeAnswer _ _

theorem SerialsApart.unwrapCompletion (h : SerialsApart s) (r : UnwrapResult)
    (hu : exec (.unwrapCompletion r) s = .next u) : SerialsApart u := by
  refine serialsApart_of_next hu ?_
  split
  · exact h
  · next k _ =>
    split
    · exact SerialsApart.finish (s := s.rejectKey k.serial .tag) h
    · split
      · exact SerialsApart.finish (s := s.rejectKey k.serial .order) h
      · next key check horder =>
        exact (h.acceptKey (e := ⟨k.serial, key, check⟩) (Bool.not_eq_true _ ▸ horder)).finish

theorem SerialsApart.reelSilent (h : SerialsApart s) (hu : exec .reelSilent s = .next u) : SerialsApart u := by
  refine serialsApart_of_next hu ?_
  split
  · exact h
  · exact h
  · exact h.abandon .reelSilent
  · exact h.abandon .reelSilent

theorem SerialsApart.discardedReelAnswer (h : SerialsApart s) (b : ReelBytes)
    (hu : exec (.discardedReelAnswer b) s = .next u) : SerialsApart u := by
  refine serialsApart_of_next hu (h.ite_of fun _ => ?_)
  split
  · exact h.takeAnswer _ _
  · exact h

theorem SerialsApart.exec_next (h : SerialsApart s) (c : Instr) (hu : exec c s = .next u) : SerialsApart u := by
  have hwindow : ∀ {n v}, (.next (s.onIdleLane n v) : Host.Outcome State Fault Refusal) = .next u →
      SerialsApart v → SerialsApart u := fun hv hvapart => serialsApart_of_next hv (h.onIdleLane hvapart)
  have hwhere : ∀ {p : Prop} [Decidable p] {v},
      (.next (if p then v else s) : Host.Outcome State Fault Refusal) = .next u → SerialsApart v → SerialsApart u :=
    fun hv hvapart => serialsApart_of_next hv (h.ite_of fun _ => hvapart)
  cases c with
  | dalRequest n kindByte address data => exact serialsApart_of_next hu (h.request _ _ _)
  | dieResponse n statusByte data => exact h.dieResponse statusByte data hu
  | responseTimerExpiry n => exact hwhere hu h.responseExpired
  | quietTimerExpiry n => exact hwhere hu h
  | tick => exact serialsApart_of_next hu (SerialsApart.expireAll (s := s.countTick) h _)
  | contactRise n => exact hwhere hu h
  | contactDebounceComplete n => exact hwhere hu h.establish
  | contactFall n => exact h.contactFall hu
  | keyWaitExpiry n => exact hwhere hu h.keyWaitExpired
  | dwellExpiry n => exact hwhere hu h.dwellExpired
  | programWatchdogExpiry n => exact hwhere hu h.watchdogExpired
  | reelPresentRise => exact hwhere hu h
  | reelDebounceEnd => exact hwhere hu (SerialsApart.reelArrival (s := { s with supply := _ }) h)
  | reelPresentFall => exact h.reelPresentFall hu
  | imageAnswer answer => exact h.imageAnswer answer hu
  | fetchStart => exact hwhere hu (SerialsApart.finish (s := s.startFetch) h)
  | fetchAnswer answer => exact h.fetchAnswer answer hu
  | unwrapCompletion r => exact h.unwrapCompletion r hu
  | appendStart => exact hwhere hu (SerialsApart.finish (s := s.startAppend) h)
  | appendOk => exact hwhere hu h.pageStored
  | appendFail => exact hwhere hu h.pageFailed
  | appendFull => exact hwhere hu (h.abandon .logSpace)
  | reelSilent => exact h.reelSilent hu
  | discardedReelAnswer b => exact h.discardedReelAnswer b hu
  | unusedSpoil => exact hwhere hu h.spoilUnused.finish
  | closeRecord => exact hwhere hu (SerialsApart.finish (s := s.queueClose) h)
  | load n => exact hwindow hu h.cmdLoad
  | close n => exact hwindow hu h.cmdClose
  | release n arg => exact hwindow hu (h.cmdRelease arg)
  | lowest n arg => exact hwindow hu (h.withSiteArg arg fun _ => h)
  | mask n arg on => exact hwindow hu (h.cmdMask arg on)
  | clearChecked n arg => exact hwindow hu (h.cmdClearChecked arg)
  | clearUnchecked n arg => exact hwindow hu (h.withSiteArg arg fun _ => h)
  | alertTake n => exact hwindow hu h.takeAlert
  | alertEndNonSpecific n => exact hwindow hu h.endAlert
  | alertEndSpecific n source => exact hwindow hu (h.endAlertOf _)
  | alertMask n data => exact hwindow hu h
  | exceptionMask n data => exact hwindow hu h
  | viewSelect n page index => exact hwindow hu (h.selectView page index)
  | viewData n => exact hwindow hu h
  | tallyLatch n => exact hwindow hu h.latchTallies
  | tally n which => exact hwindow hu (h.readTally which)
  | claimWordWrite n word data => exact hwindow hu (h.claimWrite word data)
  | powerOn => exact serialsApart_of_next hu (serialsApart_resetBy s .power)
  | resetLine => exact serialsApart_of_next hu (serialsApart_resetBy s .line)

theorem SerialsApart.step_next (h : SerialsApart s) (hu : step s = .next u) : SerialsApart u := by
  unfold step at hu
  split at hu
  · exact serialsApart_of_next hu h
  · next c rest _ => exact SerialsApart.exec_next (s := { s with pending := rest }) h c hu

end

/-- Settles O55: `SerialsOk` is `SerialsApart`, which every row keeps from every state. -/
theorem stepKeepsSerialsApart : Obligations.StepKeepsSerialsApart := fun s u _ hserials hstep =>
  have hapart : SerialsApart u := ((serialsApart_iff s).2 hserials).step_next hstep
  (serialsApart_iff u).1 hapart

end Sys2Proof.Machine.KeyPool
end

section
/-! The key pool's rows: the bind claim, delivery, RELEASE and LOWEST. -/

namespace Sys2Proof.Machine.KeyPool

open LotStates

/-! ## The bind claim (R68 to R70, R86, R87) -/

theorem stageOffset_transactionOf (k : Kind) (a d : Address) (role : Role) (o : Fin 8) :
    (transactionOf k a d role (some o.val)).stageOffset = o := by
  simp [Transaction.stageOffset, transactionOf]

/-- A bind claim is made where the log can lend a reservation (R68). -/
theorem canLend_of_claimsKey {s : State} {n : Site} {a : Address} {o : Nat} (h : s.ClaimsKey n a o) :
    s.canLend = true := by
  obtain ⟨-, -, -, -, hroom⟩ := h
  exact (canLend_iff s).2 hroom

/-- A bind claim with a key in the deque (R68): the front key is bound on a reservation, and its word goes out. -/
theorem bindClaim_front {s : State} {e : KeyEntry} {rest : List KeyEntry} (hlend : s.canLend = true)
    (hdeque : s.pool.deque = e :: rest) (n : Site) {t : Transaction} {o : Fin 8} (ho : t.stageOffset = o) :
    s.bindClaim n t =
      (({ s with pool := { s.pool with deque := rest } }.lend.bindKey n e o).forward n
        { t with observed := true } (some e.key[o])).finish := by
  subst ho
  simp only [State.bindClaim, hlend, hdeque]
  rfl

/-- A bind claim on an empty deque with a key-wait limit (R69): the site waits, on a reservation. -/
theorem bindClaim_wait {s : State} (hlend : s.canLend = true) (hdeque : s.pool.deque = [])
    (hlimit : s.image.keyWaitLimit ≠ 0) (n : Site) (t : Transaction) :
    s.bindClaim n t =
      ((((s.lend).setWaiting n true).setTimers n
          { s.timers[n] with keyWait := .running 0 s.image.keyWaitLimit }).setLane n
        ⟨.held, .stopped, some { t with observed := true }⟩).finish := by
  simp only [State.bindClaim, hlend, hdeque, bne_iff_ne, if_pos hlimit]
  rfl

/-- A bind claim on an empty deque with a key-wait limit of 0 (R70): the KEYLESS path by its mask. -/
theorem bindClaim_keyless {s : State} (hlend : s.canLend = true) (hdeque : s.pool.deque = [])
    (hlimit : s.image.keyWaitLimit = 0) (n : Site) (t : Transaction) :
    s.bindClaim n t =
      if s.masked .keyless then
        ((((s.raiseExc n .keyless).lend).blank n).forward n { t with observed := true } (some 0)).finish
      else (((s.raiseExc n .keyless).lend.releaseRes).answer n .refused).finish := by
  simp only [State.bindClaim, hlend, hdeque, hlimit]
  rfl

/-- Zeros given in place of a key, whole (R87). -/
theorem blank_eq (s : State) (n : Site) : s.blank n = State.blanked s n := rfl

/-- A reservation lent and released again leaves the log as it was. -/
theorem releaseRes_lend (s : State) : s.lend.releaseRes = s := rfl

/-- Settles O15: the claim that finds a front key, written out. -/
theorem bindTakesTheFrontKey : Obligations.BindTakesTheFrontKey := by
  intro s n kindByte a data o e rest hkind hclaim hdeque
  rw [exec_dalRequest_bindClaim hkind hclaim,
    bindClaim_front (canLend_of_claimsKey hclaim) hdeque n (stageOffset_transactionOf _ _ _ _ o)]
  rfl

/-- Settles O16: the claim that finds none, by the key-wait limit and the mask. -/
theorem bindOnAnEmptyDeque : Obligations.BindOnAnEmptyDeque := by
  constructor
  · intro s n kindByte a data o hkind hclaim hdeque hlimit
    rw [exec_dalRequest_bindClaim hkind hclaim, bindClaim_wait (canLend_of_claimsKey hclaim) hdeque hlimit]
    rfl
  · intro s n kindByte a data o hkind hclaim hdeque hlimit
    rw [exec_dalRequest_bindClaim hkind hclaim, bindClaim_keyless (canLend_of_claimsKey hclaim) hdeque hlimit,
      blank_eq, releaseRes_lend]
    rfl

/-! ## Delivery (R65, R73, R75) -/

/-- With no site waiting there is no recipient. -/
theorem recipient_none {p : Pool} (h : ∀ n : Site, p.waiting[n] = false) : p.recipient = none :=
  List.find?_eq_none.2 fun n _ => by rw [h n]; decide

/-- The waiting site above which no site waits is the recipient (R73). -/
theorem recipient_eq {p : Pool} {above below : List Site} {n : Site} (hring : p.ring = above ++ n :: below)
    (habove : ∀ m ∈ above, p.waiting[m] = false) (hn : p.waiting[n] = true) : p.recipient = some n :=
  List.find?_eq_some_iff_append.2 ⟨hn, above, below, hring, fun m hm => by rw [habove m hm]; rfl⟩

/-- Rotation takes the site out of its place and puts it lowest (R75). -/
theorem rotate_append {above below : List Site} {n : Site} (h : (above ++ n :: below).Nodup) :
    rotate (above ++ n :: below) n = above ++ below ++ [n] := by
  obtain ⟨-, hbelow, hdisjoint⟩ := List.nodup_append.1 h
  have hkeep : ∀ l : List Site, n ∉ l → l.filter (· != n) = l := fun l hl =>
    List.filter_eq_self.2 fun m hm => bne_iff_ne.2 fun hmn => hl (hmn ▸ hm)
  have ha : n ∉ above := fun hn => hdisjoint n hn n List.mem_cons_self rfl
  have hb : n ∉ below := (List.nodup_cons.1 hbelow).1
  rw [rotate, List.filter_append, hkeep above ha, List.filter_cons_of_neg (by simp), hkeep below hb]

/-- A key handed to a site with a held write, whole (R73, R75, R86). -/
theorem handOut_eq {s : State} {n : Site} {t : Transaction} (ht : s.lanes[n].transaction = some t) (e : KeyEntry) :
    s.handOut n e =
      { s with
        pool := { s.pool with waiting := s.pool.waiting.set n false, ring := rotate s.pool.ring n }
        sites := s.sites.set n
          { s.sites[n] with
            state := .staging
            binding := some ⟨e.serial, e.key, e.check, Vector.replicate 8 false, false, some t.stageOffset⟩
            attempts := 0
            capture := Vector.replicate 2 none
            suspect := false }
        timers := s.timers.set n
          { s.timers[n] with keyWait := .stopped, dwell := .running 0 s.image.dwellLimit }
        lanes := s.lanes.set n ⟨.outbound, .running 0 s.responseLimit, some { t with observed := true }⟩
        sent := s.sent ++ [.downstream n ⟨t.kind, t.addressField, some e.key[t.stageOffset]⟩] } := by
  obtain rfl : s.heldWrite n = t := by rw [State.heldWrite, ht]; rfl
  simp only [State.handOut, State.bindKey, State.forward, State.send, State.setLane, State.setTimers, State.setSite,
    State.stopKeyWait, State.setWaiting, perSite_set_self, Vector.set_set]
  rfl

/-- Settles O26: the recipient is the highest waiting site of the ring, where there is one. -/
theorem deliveringAKey : Obligations.DeliveringAKey := by
  refine fun s e front => ⟨fun _ hnone => ?_, fun above below n t hok hring habove hn ht => ?_⟩
  · rw [State.deliver, recipient_none hnone]
  · have hnodup : (above ++ n :: below).Nodup := hring ▸ hok.1
    rw [State.deliver, recipient_eq hring habove hn]
    dsimp only
    rw [handOut_eq ht, hring, rotate_append hnodup]

/-! ## RELEASE and LOWEST (R76, R103, R174) -/

theorem exec_release_idle {s : State} {n : Site} (h : s.lanes[n].state = .idle) (arg : Byte) :
    exec (.release n arg) s = .next (s.withSiteArg n arg (s.releaseSite n)) :=
  congrArg Host.Outcome.next (onIdleLane_idle h _)

theorem exec_lowest_idle {s : State} {n : Site} (h : s.lanes[n].state = .idle) (arg : Byte) :
    exec (.lowest n arg) s = .next (s.withSiteArg n arg fun m =>
      State.answer { s with pool := { s.pool with ring := lowestRing m } } n .ok) :=
  congrArg Host.Outcome.next (onIdleLane_idle h _)

/-- A command with a site argument is refused in UNLOADED and LOADING, and for an argument above 7 (R174). -/
theorem withSiteArg_refused {s : State} {arg : Byte}
    (h : s.lot.state = .unloaded ∨ s.lot.state = .loading ∨ 8 ≤ arg.toNat) (n : Site) (f : Site → State) :
    s.withSiteArg n arg f = s.answer n .refused := by
  unfold State.withSiteArg
  rcases h with hlot | hlot | harg
  · rw [hlot]; rfl
  · rw [hlot]; rfl
  · rw [siteArg_none harg]
    exact ite_self _

/-- RELEASE of a site without a key that does not wait, VACANT, FINISHED or READY, is refused. -/
theorem releaseSite_refused {s : State} {m : Site}
    (h : s.sites[m].state = .vacant ∨ s.sites[m].state = .finished ∨
      (s.sites[m].state = .ready ∧ s.pool.waiting[m] = false)) (n : Site) :
    s.releaseSite n m = s.answer n .refused := by
  unfold State.releaseSite
  rcases h with hstate | hstate | ⟨hstate, hwaiting⟩
  · rw [hstate]
  · rw [hstate]
  · rw [hstate, hwaiting]; rfl

/-- RELEASE of a waiting site: its held write is refused. -/
theorem releaseSite_waiting {s : State} {m : Site} (hstate : s.sites[m].state = .ready)
    (hwaiting : s.pool.waiting[m] = true) (n : Site) :
    s.releaseSite n m = ((s.dropHeld m .refused).answer n .ok).finish := by
  unfold State.releaseSite
  rw [hstate, hwaiting]
  rfl

/-- The end of a waiting site's held write and the command's OK, whole. -/
theorem dropHeld_answer_eq (s : State) (n m : Site) :
    (s.dropHeld m .refused).answer n .ok =
      { s with
        pool := { s.pool with waiting := s.pool.waiting.set m false }
        timers := s.timers.set m { s.timers[m] with keyWait := .stopped }
        log := { s.log with reservations := s.log.reservations - 1 }
        lanes := s.lanes.set m ⟨.idle, .stopped, none⟩
        sent := s.sent ++ [.upstream m ⟨.refused, none⟩, .upstream n ⟨.ok, none⟩] } := by
  simp only [State.dropHeld, State.answer, State.send, State.setLane, State.releaseRes, State.stopKeyWait,
    State.setTimers, State.setWaiting, List.append_assoc]
  rfl

/-- RELEASE of a STAGING site: its binding ends by what a die may hold of it. -/
theorem releaseSite_staging {s : State} {m : Site} (hstate : s.sites[m].state = .staging) (n : Site) :
    s.releaseSite n m = ((s.endStaging m .release .finished .ready).answer n .ok).finish := by
  unfold State.releaseSite
  rw [hstate]

/-- RELEASE of an ARMED or PROGRAMMED site spoils its key. -/
theorem releaseSite_burning {s : State} {m : Site}
    (h : s.sites[m].state = .armed ∨ s.sites[m].state = .programmed) (n : Site) :
    s.releaseSite n m = ((s.spoil m .release .finished).answer n .ok).finish := by
  unfold State.releaseSite
  rcases h with hstate | hstate <;> rw [hstate]

/-- RELEASE of a BLANKED or FAULT site makes it FINISHED. -/
theorem releaseSite_done {s : State} {m : Site}
    (h : s.sites[m].state = .blanked ∨ s.sites[m].state = .fault) (n : Site) :
    s.releaseSite n m = (s.setSite m { s.sites[m] with state := .finished }).answer n .ok := by
  unfold State.releaseSite
  rcases h with hstate | hstate <;> rw [hstate]

/-- A die may hold some of a key that is exposed or has a word in flight (R89, R90). -/
theorem reached_iff (b : Binding) : b.reached = true ↔ b.exposed = true ∨ b.inFlight ≠ none := by
  simp [Binding.reached, Option.isSome_iff_ne_none]

/-- The ring that LOWEST writes, place by place (R76). -/
theorem lowestRing_eq : ∀ m : Site, lowestRing m = [m + 1, m + 2, m + 3, m + 4, m + 5, m + 6, m + 7, m] := by
  decide

/-- Settles O45: the argument first, then the state of the site it names. -/
theorem releaseAndLowestCommands : Obligations.ReleaseAndLowestCommands := by
  constructor
  · refine fun s n arg hidle => ⟨fun hrefused => ?_, fun m harg hne1 hne2 => ?_⟩
    · rw [exec_release_idle hidle, withSiteArg_refused hrefused]
    · have hsite : exec (.release n arg) s = .next (s.releaseSite n m) := by
        rw [exec_release_idle hidle, withSiteArg_eq (imageInForce_of_ne hne1 hne2) harg]
      rw [hsite]
      refine ⟨fun h => ?_, fun hstate hwaiting => ?_,
        fun b hstate hb => ⟨fun hreached => ?_, fun hexposed hflight => ?_⟩, fun h => ?_, fun h => ?_⟩
      · rw [releaseSite_refused h]
      · rw [releaseSite_waiting hstate hwaiting, dropHeld_answer_eq]
      · rw [releaseSite_staging hstate, State.endStaging, hb]
        dsimp only
        rw [if_pos ((reached_iff b).2 hreached)]
      · have hunreached : ¬b.reached = true := fun h => by simp [reached_iff, hexposed, hflight] at h
        rw [releaseSite_staging hstate, State.endStaging, hb]
        dsimp only
        rw [if_neg hunreached]
      · rw [releaseSite_burning h]
      · rw [releaseSite_done h]
  · refine fun s n arg hidle => ⟨fun hrefused => ?_, fun m harg hne1 hne2 => ?_⟩
    · rw [exec_lowest_idle hidle, withSiteArg_refused hrefused]
    · rw [exec_lowest_idle hidle, withSiteArg_eq (imageInForce_of_ne hne1 hne2) harg, lowestRing_eq]

end Sys2Proof.Machine.KeyPool
end

section
/-! VIEW SELECT, VIEW DATA, and what the POOL, LOG, TABLE and LOT pages hold (R176 to R181, R193). -/

namespace Sys2Proof.Machine.KeyPool

/-! ## The view pointer (R177, R178) -/

/-- A page's code is that of no other page (R177). -/
theorem pageArg_of_code {page : BitVec 4} {p : ViewPage} (h : p.code = page.toNat) : pageArg page = some p := by
  unfold pageArg
  cases p with
  | site n => rw [← h]; exact dif_pos n.isLt
  | pool | log | table | lot => rw [← h]; rfl

/-- Twelve codes name a page. -/
theorem pageArg_none {page : BitVec 4} (h : 12 ≤ page.toNat) : pageArg page = none := by
  have hlt := page.isLt
  unfold pageArg
  rw [dif_neg (by omega)]
  split
  case h_5 => rfl
  all_goals omega

/-- VIEW SELECT of a page sets the pointer where the index lies in the page (R177). -/
theorem exec_viewSelect_page {s : State} {n : Site} (h : s.lanes[n].state = .idle) {page : BitVec 4} {p : ViewPage}
    (hp : p.code = page.toNat) (index : Byte) :
    exec (.viewSelect n page index) s = .next
      (if index.toNat < p.length then State.answer { s with pointers := s.pointers.set n ⟨p, index.toNat⟩ } n .ok
      else s.answer n .refused) := by
  refine congrArg Host.Outcome.next ((onIdleLane_idle h _).trans ?_)
  rw [State.selectView, pageArg_of_code hp]

/-- VIEW SELECT of a code without a page is refused. -/
theorem exec_viewSelect_noPage {s : State} {n : Site} (h : s.lanes[n].state = .idle) {page : BitVec 4}
    (hpage : 12 ≤ page.toNat) (index : Byte) :
    exec (.viewSelect n page index) s = .next (s.answer n .refused) := by
  refine congrArg Host.Outcome.next ((onIdleLane_idle h _).trans ?_)
  rw [State.selectView, pageArg_none hpage]

/-- VIEW DATA is the word at the pointer, which moves on (R178). -/
theorem exec_viewData_idle {s : State} {n : Site} (h : s.lanes[n].state = .idle) :
    exec (.viewData n) s = .next (s.readView n) :=
  congrArg Host.Outcome.next (onIdleLane_idle h _)

/-! ## Packed words (R193) -/

/-- A word whose low bits are clear, joined with one that fits in them. -/
theorem toNat_or_of_dvd {x y : Word} {i : Nat} (hx : 2 ^ i ∣ x.toNat) (hy : y.toNat < 2 ^ i) :
    (x ||| y).toNat = x.toNat + y.toNat := by
  obtain ⟨a, ha⟩ := hx
  rw [BitVec.toNat_or, ha, Nat.two_pow_add_eq_or_of_lt hy]

theorem toNat_place {v lo : Nat} (h : 2 ^ lo * v < 2 ^ 32) : (place v lo).toNat = 2 ^ lo * v := by
  rw [place, BitVec.toNat_ofNat, Nat.mul_comm, Nat.mod_eq_of_lt h]

/-- A field placed above those of a word. -/
theorem toNat_or_place_above {x : Word} {a v lo : Nat} (hx : x.toNat = a) (ha : a < 2 ^ lo)
    (hv : 2 ^ lo * v < 2 ^ 32) : (x ||| place v lo).toNat = a + 2 ^ lo * v := by
  have hplace := toNat_place hv
  rw [BitVec.or_comm, toNat_or_of_dvd (i := lo) (hplace ▸ Nat.dvd_mul_right _ _) (hx ▸ ha), hplace, hx, Nat.add_comm]

/-- A field placed below those of a word, whose lowest bit is bit `hi`. -/
theorem toNat_or_place_below {x : Word} {a v lo : Nat} (hi : Nat) (hx : x.toNat = a) (ha : 2 ^ hi ∣ a)
    (hv : 2 ^ lo * v < 2 ^ hi) (hhi : hi ≤ 32) : (x ||| place v lo).toNat = a + 2 ^ lo * v := by
  have hplace := toNat_place (hv.trans_le (Nat.pow_le_pow_right (by decide) hhi))
  rw [toNat_or_of_dvd (hx ▸ ha) (hplace ▸ hv), hplace, hx]

theorem bit_le_one (b : Bool) : bit b ≤ 1 := by cases b <;> decide

theorem two_pow_mul_bit (k : Nat) (b : Bool) : 2 ^ k * bit b = if b then 2 ^ k else 0 := by
  cases b <;> simp [bit]

theorem flagsToNat_lt (flags : List Bool) : flagsToNat flags < 2 ^ flags.length := by
  induction flags with
  | nil => decide
  | cons b flags ih =>
    have := bit_le_one b
    rw [flagsToNat, List.length_cons, pow_succ]
    omega

/-- Flag k is bit k. -/
theorem flagsToNat_eq_sum (flags : List Bool) :
    flagsToNat flags = ∑ k : Fin flags.length, if flags[k] then 2 ^ k.val else 0 := by
  induction flags with
  | nil => rfl
  | cons b flags ih =>
    rw [flagsToNat, ih, Finset.mul_sum]
    refine Eq.trans ?_ (Fin.sum_univ_succ (n := flags.length) _).symm
    refine congrArg₂ (· + ·) rfl (Finset.sum_congr rfl fun k _ => ?_)
    rw [mul_ite, mul_zero, ← pow_succ']
    rfl

/-- The flags of a set placed at bit `lo`: flag k is bit lo + k. -/
theorem two_pow_mul_flagsToNat {n : Nat} (lo : Nat) (v : Vector Bool n) :
    2 ^ lo * flagsToNat v.toList = ∑ k : Fin n, if v[k] then 2 ^ (lo + k.val) else 0 := by
  obtain ⟨⟨flags⟩, rfl⟩ := v
  rw [flagsToNat_eq_sum, Finset.mul_sum]
  refine Finset.sum_congr rfl fun k _ => ?_
  rw [mul_ite, mul_zero, ← pow_add]
  rfl

theorem flagsToNat_toList_lt {n : Nat} (v : Vector Bool n) : flagsToNat v.toList < 2 ^ n := by
  have h := flagsToNat_lt v.toList
  rwa [Vector.length_toList] at h

theorem nibbles_lt {digits : List Nat} (h : ∀ x ∈ digits, x < 16) : nibbles digits < 16 ^ digits.length := by
  induction digits with
  | nil => decide
  | cons x digits ih =>
    have hx := h x List.mem_cons_self
    have hrest := ih fun y hy => h y (List.mem_cons_of_mem x hy)
    rw [nibbles, List.length_cons, pow_succ]
    omega

/-- Digit k of a number given by its hexadecimal digits. -/
theorem nibbles_digit {digits : List Nat} (h : ∀ x ∈ digits, x < 16) {k x : Nat} (hk : digits[k]? = some x) :
    nibbles digits / 16 ^ k % 16 = x := by
  induction digits generalizing k with
  | nil => cases hk
  | cons y digits ih =>
    have hy := h y List.mem_cons_self
    cases k with
    | zero =>
      obtain rfl : y = x := Option.some.inj hk
      rw [nibbles, pow_zero]
      omega
    | succ k =>
      rw [← ih (fun z hz => h z (List.mem_cons_of_mem y hz)) hk, nibbles, pow_succ', ← Nat.div_div_eq_div_mul]
      congr 2
      omega

theorem toNat_serialHigh (serial : Serial) : (serialHigh serial).toNat = serial.toNat / 2 ^ 32 := by
  have := serial.isLt
  rw [serialHigh, BitVec.toNat_ofNat, Nat.mod_eq_of_lt]
  omega

theorem toNat_serialLow (serial : Serial) : (serialLow serial).toNat = serial.toNat % 2 ^ 32 :=
  BitVec.toNat_ofNat _ _

/-! ## The POOL page (R80, R180) -/

/-- Word 0: how many keys the deque holds, and which sites wait. -/
theorem poolPage_zero {s : State} (h : s.pool.deque.length ≤ 32) :
    (s.poolPage 0).toNat = s.pool.deque.length + ∑ n : Site, if s.pool.waiting[n] then 2 ^ (8 + n.val) else 0 := by
  have hflags := flagsToNat_toList_lt s.pool.waiting
  rw [← two_pow_mul_flagsToNat]
  exact toNat_or_place_above ((toNat_place (by omega)).trans (by omega)) (by omega) (by omega)

/-- Word 1: the ring, the highest place in the lowest digit. -/
theorem poolPage_one {s : State} (h : s.RingOk) {k : Nat} {n : Site} (hk : s.pool.ring[k]? = some n) :
    (s.poolPage 1).toNat / 16 ^ k % 16 = n.val := by
  have hdigits : ∀ x ∈ s.pool.ring.map (·.val), x < 16 := by
    intro x hx
    obtain ⟨m, -, rfl⟩ := List.mem_map.1 hx
    omega
  have hlength : (s.pool.ring.map (·.val)).length ≤ 8 := by
    rw [List.length_map]
    exact h.1.length_le_card
  have hlt : nibbles (s.pool.ring.map (·.val)) < 2 ^ 32 :=
    (nibbles_lt hdigits).trans_le (Nat.pow_le_pow_right (n := 16) (by decide) hlength)
  have hword : (s.poolPage 1).toNat = nibbles (s.pool.ring.map (·.val)) :=
    (BitVec.toNat_ofNat _ _).trans (Nat.mod_eq_of_lt hlt)
  rw [hword]
  exact nibbles_digit hdigits (by rw [List.getElem?_map, hk]; rfl)

/-- Words 2 to 5 of an empty deque. -/
theorem poolPage_empty {s : State} (h : s.pool.deque = []) {i : Nat} (hi : i ∈ [2, 3, 4, 5]) :
    (s.poolPage i).toNat = 0 := by
  fin_cases hi <;> simp only [State.poolPage, h] <;> rfl

/-- Words 2 and 3: the serial of the front key. -/
theorem poolPage_front {s : State} {front : KeyEntry} {rest : List KeyEntry} (h : s.pool.deque = front :: rest) :
    (s.poolPage 2).toNat = front.serial.toNat / 2 ^ 32 ∧ (s.poolPage 3).toNat = front.serial.toNat % 2 ^ 32 := by
  simp only [State.poolPage, h]
  exact ⟨toNat_serialHigh _, toNat_serialLow _⟩

/-- Words 4 and 5: the serial of the key at the back. -/
theorem poolPage_back {s : State} {rest : List KeyEntry} {back : KeyEntry} (h : s.pool.deque = rest ++ [back]) :
    (s.poolPage 4).toNat = back.serial.toNat / 2 ^ 32 ∧ (s.poolPage 5).toNat = back.serial.toNat % 2 ^ 32 := by
  simp only [State.poolPage, h, List.getLast?_append_of_ne_nil _ (List.cons_ne_nil back []), List.getLast?_singleton]
  exact ⟨toNat_serialHigh _, toNat_serialLow _⟩

/-- Words 6 and 7 before the first accepted key. -/
theorem poolPage_noHighest {s : State} (h : s.pool.highest = none) :
    (s.poolPage 6).toNat = 0 ∧ (s.poolPage 7).toNat = 0 := by
  simp only [State.poolPage, h]
  exact ⟨rfl, rfl⟩

/-- Words 6 and 7: the highest accepted serial, under the flag in bit 31. -/
theorem poolPage_highest {s : State} {top : Serial} (h : s.pool.highest = some top) :
    (s.poolPage 6).toNat = 2 ^ 31 + top.toNat / 2 ^ 32 ∧ (s.poolPage 7).toNat = top.toNat % 2 ^ 32 := by
  have hlt := top.isLt
  simp only [State.poolPage, h]
  refine ⟨?_, toNat_serialLow _⟩
  rw [Nat.add_comm]
  exact toNat_or_place_above (v := 1) (toNat_serialHigh top) (by omega) (by decide)

/-! ## The head of the LOG page (R180) -/

/-- LOG word 0: the records held and the reservations. -/
theorem logPage_zero {s : State} (h : s.LogRoom) :
    (s.logPage 0).toNat = s.log.records.length + 2 ^ 8 * s.log.reservations := by
  have hroom : s.log.records.length + s.log.reservations ≤ 16 := h
  exact toNat_or_place_above ((toNat_place (by omega)).trans (by omega)) (by omega) (by omega)

/-! ## The TABLE and LOT pages (R181) -/

theorem image_of_none {s : State} (h : s.lot.image = none) : s.image = LotImage.blank := by rw [State.image, h]; rfl

theorem image_of_some {s : State} {im : LotImage} (h : s.lot.image = some im) : s.image = im := by
  rw [State.image, h]; rfl

theorem word_blank (i : Nat) : LotImage.blank.word i = 0 := by
  unfold LotImage.word
  split <;> rfl

theorem tablePage_of_none {s : State} (h : s.lot.image = none) (i : Nat) : s.tablePage i = 0 := by
  rw [State.tablePage, image_of_none h]
  have hblank : ∀ e ∈ LotImage.blank.table.toList[i]?, e = ⟨.none, 0, 0, none⟩ := fun e he => by
    simpa [LotImage.blank] using List.mem_of_getElem? he
  split
  · next e he => rw [hblank e he]; rfl
  · rfl

theorem tablePage_of_some {s : State} {im : LotImage} (h : s.lot.image = some im) (i : Fin 16) :
    s.tablePage i.val = im.table[i].word := by
  have hentry : im.table.toList[i.val]? = some im.table[i] := by simp
  rw [State.tablePage, image_of_some h, hentry]

/-- An entry in order is at most 256 long, whatever its role (R25). -/
theorem length_le_of_ok {mode : CheckMode} {e : WindowEntry} (h : e.Ok mode) : e.length ≤ 256 := by
  obtain ⟨hnone, hident, hstage, harm, hstatus, hcheck, hclaim, hguard, -⟩ := h
  cases hrole : e.role with
  | none => rw [hnone hrole]; decide
  | ident => rw [hident hrole]; decide
  | stage => rw [hstage hrole]; decide
  | arm => rw [harm hrole]; decide
  | status => rw [hstatus hrole]; decide
  | check => rw [hcheck hrole]; decide
  | claim => rw [hclaim hrole]; decide
  | guard => exact (hguard hrole).2

theorem role_code_le (r : Role) : r.code ≤ 7 := by cases r <;> decide

theorem access_code_le (a : Option Access) : (a.map Access.code).getD 0 ≤ 3 := by
  rcases a with _ | ⟨_ | _ | _⟩ <;> decide

/-- A table entry's word: role, access, length and base. -/
theorem toNat_entry_word {mode : CheckMode} {e : WindowEntry} (h : e.Ok mode) :
    e.word.toNat =
      2 ^ 28 * e.role.code + 2 ^ 26 * (e.access.map Access.code).getD 0 + 2 ^ 16 * e.length + e.base.toNat := by
  have hrole := role_code_le e.role
  have haccess := access_code_le e.access
  have hlength := length_le_of_ok h
  have hbase := e.base.isLt
  have hword := toNat_or_place_below (lo := 0) (v := e.base.toNat) 16
    (toNat_or_place_below (lo := 16) (v := e.length) 26
      (toNat_or_place_below (lo := 26) (v := (e.access.map Access.code).getD 0) 28
        (toNat_place (lo := 28) (v := e.role.code) (by omega)) (by omega) (by omega) (by omega))
      (by omega) (by omega) (by omega)) (by omega) (by omega) (by omega)
  rw [pow_zero, one_mul] at hword
  exact hword

theorem checkMode_code_le (m : CheckMode) : m.code ≤ 2 := by cases m <;> decide

/-- A LOT word of two fields, one in its upper half. -/
theorem toNat_two_halves {upper lower : Nat} (hupper : upper < 2 ^ 16) (hlower : lower < 2 ^ 16) :
    (place upper 16 ||| place lower 0).toNat = 2 ^ 16 * upper + lower := by
  have hword := toNat_or_place_below (lo := 0) (v := lower) 16 (toNat_place (lo := 16) (v := upper) (by omega))
    (by omega) (by omega) (by omega)
  rwa [pow_zero, one_mul] at hword

/-- LOT word 10: the check mode, the three limits and the two options. -/
theorem toNat_word_ten {im : LotImage} (h : im.FieldsOk) :
    (im.word 10).toNat = im.checkMode.code + 2 ^ 4 * im.retryLimit + 2 ^ 8 * im.refillLevel + 2 ^ 16 * im.lowLevel +
      (if im.identRequired then 2 ^ 24 else 0) + if im.autoEnd then 2 ^ 25 else 0 := by
  obtain ⟨⟨-, -, -, -, -, -, -, -, -, -, hretry, hrefill, hlow, -⟩, -⟩ := h
  have hmode := checkMode_code_le im.checkMode
  have hident := bit_le_one im.identRequired
  have hauto := bit_le_one im.autoEnd
  rw [← two_pow_mul_bit, ← two_pow_mul_bit]
  have h0 : (place im.checkMode.code 0).toNat = im.checkMode.code := (toNat_place (by omega)).trans (by omega)
  have h4 := toNat_or_place_above (lo := 4) (v := im.retryLimit) h0 (by omega) (by omega)
  have h8 := toNat_or_place_above (lo := 8) (v := im.refillLevel) h4 (by omega) (by omega)
  have h16 := toNat_or_place_above (lo := 16) (v := im.lowLevel) h8 (by omega) (by omega)
  have h24 := toNat_or_place_above (lo := 24) (v := bit im.identRequired) h16 (by omega) (by omega)
  exact toNat_or_place_above h24 (by omega) (by omega)

/-- LOT word 11: the masks that exceptions and alerts start with. -/
theorem toNat_word_eleven (im : LotImage) :
    (im.word 11).toNat = (∑ k : Fin 7, if im.excMask[k] then 2 ^ k.val else 0) +
      ∑ k : Fin 8, if im.alertMask[k] then 2 ^ (8 + k.val) else 0 := by
  have hexc := flagsToNat_toList_lt im.excMask
  have halert := flagsToNat_toList_lt im.alertMask
  have hsum := two_pow_mul_flagsToNat 0 im.excMask
  simp only [Nat.zero_add] at hsum
  rw [← two_pow_mul_flagsToNat, ← hsum]
  exact toNat_or_place_above (toNat_place (by omega)) (by omega) (by omega)

/-- Settles O51: the two rows, and each page word as the sum of its fields. -/
theorem viewSelectViewDataAndPages : Obligations.ViewSelectViewDataAndPages := by
  refine ⟨fun s n hidle => ⟨fun page index => ⟨fun p hp => ?_, fun hpage => exec_viewSelect_noPage hidle hpage index⟩,
    exec_viewData_idle hidle⟩, fun s hcoherent himage => ?_⟩
  · rw [exec_viewSelect_page hidle hp]
    exact ⟨fun hlt => congrArg Host.Outcome.next (if_pos hlt),
      fun hle => congrArg Host.Outcome.next (if_neg (Nat.not_lt.2 hle))⟩
  intro high low shows
  have hdeque : s.pool.deque.length ≤ 32 := by
    have hfit : s.pool.deque.length + s.bindings + s.draws ≤ 32 := hcoherent.fit
    omega
  refine ⟨⟨poolPage_zero hdeque, fun k n => poolPage_one hcoherent.ring, fun hempty i hi => poolPage_empty hempty hi,
    fun front rest => poolPage_front, fun rest back => poolPage_back, poolPage_noHighest, fun top => poolPage_highest⟩,
    ⟨logPage_zero hcoherent.room, rfl⟩, fun hnone i => ?_, fun im him => ?_⟩
  · have hlot : s.pageWord .lot i = 0 := by rw [State.pageWord, image_of_none hnone, word_blank]
    exact ⟨congrArg BitVec.toNat (tablePage_of_none hnone i), congrArg BitVec.toNat hlot⟩
  · obtain ⟨hfields, hentries, -⟩ := himage.1 im him
    have hword : ∀ i, s.pageWord .lot i = im.word i := fun i => by rw [State.pageWord, image_of_some him]
    simp only [shows, hword]
    obtain ⟨⟨-, hresponse, hkeyWait, -, hdwell, -, hwatchdog, -, hdebounce, -, -, -, -, -, hceiling, htick⟩, -⟩ :=
      id hfields
    refine ⟨fun i => ?_, rfl, rfl, rfl, rfl, rfl, rfl, (toNat_place (by omega)).trans (by omega),
      toNat_two_halves (by omega) (by omega), toNat_two_halves (by omega) (by omega),
      toNat_two_halves (by omega) (by omega), toNat_word_ten hfields, toNat_word_eleven im⟩
    rw [State.pageWord, tablePage_of_some him]
    exact toNat_entry_word (hentries i)

end Sys2Proof.Machine.KeyPool
end

section
/-! The site engine: STAGE and ARM writes by site state, the outcomes by role, and the ends of a binding. -/

namespace Sys2Proof.Machine.SiteEngine

open LotStates KeyPool

/-! ## STAGE writes (R85, R88, R91) -/

/-- A STAGE write at a site in a lot state with a table in force is the site engine's (R11). -/
theorem exec_stageWrite {s : State} {n : Site} {kindByte : Byte} {a : Address} {o : Option Nat}
    (hkind : Kind.ofByte kindByte = .write) (h : s.ReachesRole n .write a .stage o) (data : Word) :
    exec (requestOf n kindByte a data) s =
      .next (s.stageWrite n (transactionOf .write a (s.checkMode.dieAddress a) .stage o)) :=
  exec_dalRequest_role hkind h

/-- A READY site's STAGE write is a bind trigger (R85). -/
theorem stageWrite_ready {s : State} {n : Site} (h : s.sites[n].state = .ready) (t : Transaction) :
    s.stageWrite n t = s.bindTrigger n t := by
  unfold State.stageWrite
  rw [h]

/-- A STAGING site's STAGE write is substituted (R88): the key's word goes out, and its offset is in flight. -/
theorem stageWrite_staging {s : State} {n : Site} {b : Binding} (h : s.sites[n].state = .staging)
    (hb : s.sites[n].binding = some b) {t : Transaction} {o : Fin 8} (ho : t.stageOffset = o) :
    s.stageWrite n t =
      (s.setSite n { s.sites[n] with binding := some { b with inFlight := some o } }).forward n
        { t with observed := true } (some b.key[o]) := by
  subst ho
  unfold State.stageWrite
  rw [h, hb]

/-- A BLANKED site's STAGE write goes out with data 0 (R91). -/
theorem stageWrite_blanked {s : State} {n : Site} (h : s.sites[n].state = .blanked) (t : Transaction) :
    s.stageWrite n t = s.forward n { t with observed := true } (some 0) := by
  unfold State.stageWrite
  rw [h]

/-- A STAGE write is out of sequence from the arm write on (R91). -/
theorem stageWrite_refused {s : State} {n : Site}
    (h : s.sites[n].state = .armed ∨ s.sites[n].state = .programmed ∨ s.sites[n].state = .finished ∨
      s.sites[n].state = .fault) (t : Transaction) : s.stageWrite n t = s.refuseOrder n := by
  unfold State.stageWrite
  rcases h with h | h | h | h <;> rw [h]

/-- The ident test of a bind trigger, as the statements write it (R85). -/
theorem identMissing_iff (s : State) (n : Site) :
    (s.image.identRequired && !s.sites[n].ident.complete) = true ↔
      s.image.identRequired = true ∧ s.sites[n].ident.toList.all Option.isSome = false := by
  simp only [Ident.complete, Bool.and_eq_true, Bool.not_eq_true']

/-- A bind trigger whose required ident is incomplete (R85, test 1). -/
theorem bindTrigger_order {s : State} {n : Site}
    (h : s.image.identRequired = true ∧ s.sites[n].ident.toList.all Option.isSome = false) (t : Transaction) :
    s.bindTrigger n t = s.refuseOrder n :=
  if_pos ((identMissing_iff s n).2 h)

/-- A bind trigger outside OPEN (R85, test 2). -/
theorem bindTrigger_keyless {s : State} {n : Site}
    (h : ¬(s.image.identRequired = true ∧ s.sites[n].ident.toList.all Option.isSome = false))
    (hlot : s.lot.state ≠ .opened) (t : Transaction) :
    s.bindTrigger n t = (s.raiseExc n .keyless).answer n .refused := by
  rw [State.bindTrigger, if_neg (mt (identMissing_iff s n).1 h), if_pos (bne_iff_ne.2 hlot)]

/-- A bind trigger that passes both tests is a bind claim (R85). -/
theorem bindTrigger_claim {s : State} {n : Site}
    (h : ¬(s.image.identRequired = true ∧ s.sites[n].ident.toList.all Option.isSome = false))
    (hlot : s.lot.state = .opened) (t : Transaction) : s.bindTrigger n t = s.bindClaim n t := by
  rw [State.bindTrigger, if_neg (mt (identMissing_iff s n).1 h), if_neg (by simp [hlot])]

/-- A bind claim for which the log cannot lend a reservation (R68). -/
theorem bindClaim_retry {s : State} (h : 16 ≤ s.log.records.length + s.log.reservations) (n : Site) (t : Transaction) :
    s.bindClaim n t = s.answer n .retry := by
  have hlend : s.canLend = false := Bool.eq_false_iff.2 fun hlend => absurd ((canLend_iff s).1 hlend) (by omega)
  unfold State.bindClaim
  rw [hlend]
  rfl

/-- Settles O14: the tests of a bind trigger in their order, then the other site states. -/
theorem stageWritesWithoutABind : Obligations.StageWritesWithoutABind := by
  constructor
  · intro s n kindByte a data o hkind hreach hready
    rw [exec_stageWrite hkind hreach, stageWrite_ready hready]
    refine ⟨fun hident => ?_, fun hident hlot => ?_, fun hident hlot hfull => ?_⟩
    · rw [bindTrigger_order hident]; rfl
    · rw [bindTrigger_keyless hident hlot]
    · rw [bindTrigger_claim hident hlot, bindClaim_retry hfull]
  · intro s n kindByte a data o hkind hreach
    rw [exec_stageWrite hkind hreach]
    refine ⟨fun b hstaging hb => ?_, fun hblanked => ?_, fun hlater => ?_⟩
    · rw [stageWrite_staging hstaging hb (stageOffset_transactionOf _ _ _ _ o)]; rfl
    · rw [stageWrite_blanked hblanked]; rfl
    · rw [stageWrite_refused hlater]; rfl

/-! ## The arm check (R93) -/

/-- A stage set is complete where it holds all eight offsets (R89). -/
theorem binding_complete_iff (b : Binding) : b.complete = true ↔ b.stageSet = Vector.replicate 8 true := by
  rw [Binding.complete, List.all_eq_true]
  constructor
  · intro h
    refine perSite_ext fun n => ?_
    rw [perSite_replicate]
    exact h _ (by simp)
  · intro h x hx
    rw [h, Vector.toList_replicate] at hx
    exact List.eq_of_mem_replicate hx

theorem armAdmitted_iff (s : State) (n : Site) :
    s.armAdmitted n = true ↔
      s.sites[n].state = .staging ∧ (∃ b, s.sites[n].binding = some b ∧ b.stageSet = Vector.replicate 8 true) ∧
        (s.lot.state = .opened ∨ s.lot.state = .draining) := by
  have hset : (s.sites[n].binding.map Binding.complete).getD false = true ↔
      ∃ b, s.sites[n].binding = some b ∧ b.stageSet = Vector.replicate 8 true := by
    cases s.sites[n].binding <;> simp [binding_complete_iff]
  simp only [State.armAdmitted, Bool.and_eq_true, Bool.or_eq_true, beq_iff_eq, hset, and_assoc]

/-- A WRITE of the arm value to the ARM word is put to the arm check (R93). -/
theorem exec_armWrite {s : State} {n : Site} {kindByte : Byte} {a : Address} {o : Option Nat}
    (hkind : Kind.ofByte kindByte = .write) (h : s.ReachesRole n .write a .arm o) :
    exec (requestOf n kindByte a s.image.arm) s =
      .next (s.armWrite n (transactionOf .write a (s.checkMode.dieAddress a) .arm o)) :=
  (exec_dalRequest_role hkind h).trans (congrArg Host.Outcome.next (if_pos rfl))

/-- Settles O17: the arm check admits or refuses. -/
theorem armWritesAreChecked : Obligations.ArmWritesAreChecked := by
  intro s n kindByte a o hkind hreach
  rw [exec_armWrite hkind hreach, ← armAdmitted_iff]
  constructor
  · intro hadmitted
    rw [State.armWrite, if_pos hadmitted]
    rfl
  · intro hrefused
    rw [State.armWrite, if_neg hrefused]
    rfl

/-! ## Outcomes (R83) -/

/-- Without an image in force no outcome is interpreted (R83, R106). -/
theorem outcome_notInForce {s : State} (h : s.lot.state = .unloaded ∨ s.lot.state = .loading) (n : Site)
    (t : Transaction) (out : DieOutcome) : s.outcome n t out = s := by
  unfold State.outcome
  rcases h with h | h <;> rw [h] <;> rfl

/-- With an image in force an outcome is read by the transaction's role (R83). -/
theorem outcome_inForce {s : State} (h1 : s.lot.state ≠ .unloaded) (h2 : s.lot.state ≠ .loading) (n : Site)
    (t : Transaction) (out : DieOutcome) : s.outcome n t out = s.outcomeByRole n t out :=
  if_pos (imageInForce_of_ne h1 h2)

theorem outcomeByRole_ident {t : Transaction} {i : Fin 4} (hrole : t.role = .ident) (ho : t.offset = some i.val)
    (s : State) (n : Site) (out : DieOutcome) : s.outcomeByRole n t out = s.identOutcome n i.val out := by
  rw [State.outcomeByRole, hrole, ho]; rfl

theorem outcomeByRole_stage {t : Transaction} (hrole : t.role = .stage) (s : State) (n : Site) (out : DieOutcome) :
    s.outcomeByRole n t out = s.stageOutcome n (t.offset.getD 0) out := by
  rw [State.outcomeByRole, hrole]

theorem outcomeByRole_arm {t : Transaction} (hrole : t.role = .arm) (harm : t.arm = true) (s : State) (n : Site)
    (out : DieOutcome) : s.outcomeByRole n t out = s.armOutcome n out := by
  rw [State.outcomeByRole, hrole]; exact if_pos harm

theorem outcomeByRole_status {t : Transaction} (hrole : t.role = .status) (s : State) (n : Site) (out : DieOutcome) :
    s.outcomeByRole n t out = s.statusOutcome n out := by
  rw [State.outcomeByRole, hrole]

theorem outcomeByRole_check {t : Transaction} {i : Fin 2} (hrole : t.role = .check) (ho : t.offset = some i.val)
    (s : State) (n : Site) (out : DieOutcome) : s.outcomeByRole n t out = s.checkOutcome n i.val out := by
  rw [State.outcomeByRole, hrole, ho]; rfl

/-! ### IDENT and STAGE (R84, R89) -/

/-- An IDENT OK captures the word at a READY site alone (R84). -/
theorem identOutcome_ok (s : State) (n : Site) (i : Fin 4) (data : Word) :
    s.identOutcome n i.val (.ok data) =
      if s.sites[n].state = .ready
      then s.setSite n { s.sites[n] with ident := s.sites[n].ident.set i (some data) } else s := by
  unfold State.identOutcome
  split
  · next hready hout =>
    cases hout
    simp only [hready, if_true, Fin.ofNat_val_eq_self]
  · next hother => exact (if_neg fun hready => hother data hready rfl).symm

/-- An IDENT outcome without a word captures nothing (R84). -/
theorem identOutcome_noWord {out : DieOutcome} (h : ∀ data, out ≠ .ok data) (s : State) (n : Site) (o : Nat) :
    s.identOutcome n o out = s := by
  unfold State.identOutcome
  split
  · exact absurd rfl (h _)
  · rfl

/-- The outcome of the word in flight is the binding's (R89). -/
theorem stageOutcome_inFlight {s : State} {n : Site} {b : Binding} {i : Fin 8} (hb : s.sites[n].binding = some b)
    (hi : b.inFlight = some i) (out : DieOutcome) :
    s.stageOutcome n i.val out = s.setSite n { s.sites[n] with binding := some (b.stageOutcome i out) } := by
  rw [State.stageOutcome, hb, Fin.ofNat_val_eq_self]
  exact if_pos hi

/-- A STAGE outcome of any other word changes nothing (R89). -/
theorem stageOutcome_other {s : State} {n : Site} {b : Binding} {i : Fin 8} (hb : s.sites[n].binding = some b)
    (hi : b.inFlight ≠ some i) (out : DieOutcome) : s.stageOutcome n i.val out = s := by
  rw [State.stageOutcome, hb, Fin.ofNat_val_eq_self]
  exact if_neg hi

/-- A STAGE outcome at a site without a binding changes nothing (R89). -/
theorem stageOutcome_noBinding {s : State} {n : Site} (hb : s.sites[n].binding = none) (o : Nat) (out : DieOutcome) :
    s.stageOutcome n o out = s := by
  rw [State.stageOutcome, hb]

/-- Settles O21: by lot state, then by role. -/
theorem identAndStageOutcomes : Obligations.IdentAndStageOutcomes := by
  refine ⟨fun s n t out h => outcome_notInForce h n t out, fun s n t data h1 h2 => ?_⟩
  simp only [outcome_inForce h1 h2]
  refine ⟨fun i hrole ho => ?_, fun i b hrole ho hb => ?_, fun hrole hb out => ?_⟩
  · simp only [outcomeByRole_ident hrole ho]
    exact ⟨identOutcome_ok s n i data, identOutcome_noWord (by simp) s n i.val, identOutcome_noWord (by simp) s n i.val⟩
  · simp only [outcomeByRole_stage hrole, ho, Option.getD_some]
    exact ⟨fun hi => ⟨stageOutcome_inFlight hb hi _, stageOutcome_inFlight hb hi _, stageOutcome_inFlight hb hi _⟩,
      fun hi out => stageOutcome_other hb hi out⟩
  · rw [outcomeByRole_stage hrole, stageOutcome_noBinding hb]

/-! ### ARM (R94) -/

/-- Back to STAGING, whole (R94, R96). -/
theorem backToStaging_eq (s : State) (n : Site) :
    s.backToStaging n =
      { s with
        sites := s.sites.set n { s.sites[n] with state := .staging, suspect := false }
        timers := s.timers.set n
          { s.timers[n] with dwell := .running 0 s.image.dwellLimit, watchdog := .stopped } } := rfl

/-- At an ARMED site an ARM write that the die may have taken counts an attempt (R94). -/
theorem armOutcome_counts {s : State} {n : Site} (h : s.sites[n].state = .armed) {out : DieOutcome}
    (hout : out ≠ .nak) :
    s.armOutcome n out = s.setSite n { s.sites[n] with attempts := s.sites[n].attempts + 1 } := by
  unfold State.armOutcome
  rw [h]
  cases out with
  | nak => exact absurd rfl hout
  | ok data => rfl
  | timeout => rfl

/-- At an ARMED site an ARM write that the die refused takes the arming back (R94). -/
theorem armOutcome_nak {s : State} {n : Site} (h : s.sites[n].state = .armed) :
    s.armOutcome n .nak = s.backToStaging n := by
  unfold State.armOutcome
  rw [h]

/-- An ARM outcome in any other state changes nothing (R94). -/
theorem armOutcome_other {s : State} {n : Site} (h : s.sites[n].state ≠ .armed) (out : DieOutcome) :
    s.armOutcome n out = s := by
  unfold State.armOutcome
  cases hstate : s.sites[n].state with
  | armed => exact absurd hstate h
  | vacant | ready | staging | blanked | programmed | finished | fault => rfl

/-- Settles O22: in ARMED by the outcome, elsewhere nothing. -/
theorem armOutcomes : Obligations.ArmOutcomes := by
  intro s n t data h1 h2 hrole harm
  simp only [outcome_inForce h1 h2, outcomeByRole_arm hrole harm]
  refine ⟨fun harmed => ?_, armOutcome_other⟩
  exact ⟨armOutcome_counts harmed (by simp), armOutcome_counts harmed (by simp),
    (armOutcome_nak harmed).trans (backToStaging_eq s n)⟩

/-! ### STATUS (R95 to R97) -/

/-- STATUS is read at an ARMED site alone (R95). -/
theorem statusOutcome_other {s : State} {n : Site} (h : s.sites[n].state ≠ .armed) (out : DieOutcome) :
    s.statusOutcome n out = s := by
  unfold State.statusOutcome
  split
  · exact absurd ‹_› h
  · rfl

/-- A STATUS outcome without a word changes nothing (R97). -/
theorem statusOutcome_noWord {out : DieOutcome} (h : ∀ data, out ≠ .ok data) (s : State) (n : Site) :
    s.statusOutcome n out = s := by
  unfold State.statusOutcome
  split
  · exact absurd rfl (h _)
  · rfl

/-- A status word at an ARMED site, by its value under the status mask (R95 to R97). -/
theorem statusOutcome_armed {s : State} {n : Site} (h : s.sites[n].state = .armed) (data : Word) :
    s.statusOutcome n (.ok data) =
      if data &&& s.image.statusMask = s.image.done then s.statusDone n
      else if data &&& s.image.statusMask = s.image.fail then s.statusFail n
      else s := by
  unfold State.statusOutcome
  rw [h]

/-- Settles O23: a status word by its value, a fail by the attempts. -/
theorem statusOutcomes : Obligations.StatusOutcomes := by
  intro s n t data h1 h2 hrole
  simp only [outcome_inForce h1 h2, outcomeByRole_status hrole]
  refine ⟨statusOutcome_other, ⟨statusOutcome_noWord (by simp) s n, statusOutcome_noWord (by simp) s n⟩,
    fun harmed hne => ?_⟩
  rw [statusOutcome_armed harmed]
  have hfail : data &&& s.image.statusMask = s.image.fail → data &&& s.image.statusMask ≠ s.image.done :=
    fun hword hdone => hne (hdone.symm.trans hword)
  refine ⟨fun hdone => ?_, fun hword hbelow => ?_, fun hword hlimit => ?_, fun hdone hword => ?_⟩
  · rw [if_pos hdone]; rfl
  · rw [if_neg (hfail hword), if_pos hword, State.statusFail, if_pos hbelow, backToStaging_eq]
  · rw [if_neg (hfail hword), if_pos hword, State.statusFail, if_neg (Nat.not_lt.2 hlimit)]
  · rw [if_neg hdone, if_neg hword]

/-! ### CHECK (R98 to R100) -/

/-- A CHECK outcome without a word changes nothing (R98). -/
theorem checkOutcome_noWord {out : DieOutcome} (h : ∀ data, out ≠ .ok data) (s : State) (n : Site) (o : Nat) :
    s.checkOutcome n o out = s := by
  unfold State.checkOutcome
  split
  · exact absurd rfl (h _)
  · rfl

/-- A CHECK outcome is read at a PROGRAMMED site alone (R98). -/
theorem checkOutcome_other {s : State} {n : Site} (h : s.sites[n].state ≠ .programmed) (o : Nat) (out : DieOutcome) :
    s.checkOutcome n o out = s := by
  unfold State.checkOutcome
  split
  · exact absurd ‹_› h
  · rfl

/-- A check word at a PROGRAMMED site is captured, and the capture compared (R98, R99). -/
theorem checkOutcome_programmed {s : State} {n : Site} {b : Binding} (h : s.sites[n].state = .programmed)
    (hb : s.sites[n].binding = some b) (i : Fin 2) (data : Word) :
    s.checkOutcome n i.val (.ok data) =
      (s.setSite n { s.sites[n] with capture := s.sites[n].capture.set i (some data) }).compareCheck n b.check := by
  unfold State.checkOutcome
  simp only [h, hb, Fin.ofNat_val_eq_self]

/-- The two indices of a check pair, in either order. -/
theorem checkIndices {i j : Fin 2} (h : i ≠ j) : (i = 0 ∧ j = 1) ∨ (i = 1 ∧ j = 0) := by
  revert i j; decide

/-- An incomplete pair is not compared (R99). -/
theorem compareCheck_incomplete {s : State} {n : Site} {j : Fin 2} (h : s.sites[n].capture[j] = none)
    (check : CheckWords) : s.compareCheck n check = s := by
  unfold State.compareCheck
  split
  · next w0 w1 h0 h1 =>
    have hj : j = 0 ∨ j = 1 := by omega
    rcases hj with rfl | rfl
    · cases h0.symm.trans h
    · cases h1.symm.trans h
  · rfl

/-- A complete pair is compared with the expected check (R99), whichever word came last. -/
theorem compareCheck_complete {s : State} {n : Site} {i j : Fin 2} (hij : i ≠ j) {wi wj : Word}
    (hi : s.sites[n].capture[i] = some wi) (hj : s.sites[n].capture[j] = some wj) (check : CheckWords) :
    s.compareCheck n check =
      if wi = check[i] ∧ wj = check[j] then (s.commit n).finish else (s.spoil n .mismatch .fault).finish := by
  have hpair : ∀ {w0 w1 : Word}, s.sites[n].capture[(0 : Fin 2)] = some w0 →
      s.sites[n].capture[(1 : Fin 2)] = some w1 → s.compareCheck n check =
        if w0 = check[(0 : Fin 2)] ∧ w1 = check[(1 : Fin 2)] then (s.commit n).finish
        else (s.spoil n .mismatch .fault).finish := by
    intro w0 w1 h0 h1
    have h0' : s.sites[n].capture[0] = some w0 := h0
    have h1' : s.sites[n].capture[1] = some w1 := h1
    unfold State.compareCheck
    simp only [h0', h1']
    rfl
  rcases checkIndices hij with ⟨rfl, rfl⟩ | ⟨rfl, rfl⟩
  · exact hpair hi hj
  · rw [hpair hj hi]
    simp only [and_comm]

/-- A commit does not read the check capture. -/
theorem commit_setSite_capture {s : State} {n : Site} {b : Binding} (hb : s.sites[n].binding = some b)
    (capture : Vector (Option Word) 2) :
    (s.setSite n { s.sites[n] with capture := capture }).commit n = s.commit n := by
  rw [commit_eq hb, commit_eq (b := b) (by rw [State.setSite_sites, perSite_set_self]; exact hb)]
  simp only [State.setSite, perSite_set_self, Vector.set_set]

/-- A spoil does not read the check capture. -/
theorem spoil_setSite_capture {s : State} {n : Site} {b : Binding} (hb : s.sites[n].binding = some b)
    (capture : Vector (Option Word) 2) (reason : SpoilReason) (next : SiteState) :
    (s.setSite n { s.sites[n] with capture := capture }).spoil n reason next = s.spoil n reason next := by
  rw [spoil_eq hb, spoil_eq (b := b) (by rw [State.setSite_sites, perSite_set_self]; exact hb)]
  simp only [State.setSite, perSite_set_self, Vector.set_set]

/-- A check word that completes the pair at a PROGRAMMED site (R99). -/
theorem checkOutcome_complete {s : State} {n : Site} {b : Binding} (h : s.sites[n].state = .programmed)
    (hb : s.sites[n].binding = some b) {i j : Fin 2} (hij : i ≠ j) {other : Word}
    (hother : s.sites[n].capture[j] = some other) (data : Word) :
    s.checkOutcome n i.val (.ok data) =
      if data = b.check[i] ∧ other = b.check[j] then (s.commit n).finish
      else (s.spoil n .mismatch .fault).finish := by
  rw [checkOutcome_programmed h hb, compareCheck_complete hij (wi := data) (wj := other), commit_setSite_capture hb,
    spoil_setSite_capture hb]
  · rw [State.setSite_sites, perSite_set_self, perSite_set_self]
  · rw [State.setSite_sites, perSite_set_self, perSite_set_ne _ _ hij.symm, hother]

/-- Settles O24: the first word of the pair is kept, the second compared with it. -/
theorem checkOutcomes : Obligations.CheckOutcomes := by
  intro s n t data i j b h1 h2 hrole ho hij
  simp only [outcome_inForce h1 h2, outcomeByRole_check hrole ho]
  refine ⟨⟨checkOutcome_noWord (by simp) s n i.val, checkOutcome_noWord (by simp) s n i.val⟩,
    fun hstate => checkOutcome_other hstate i.val _,
    fun hstate hb => ⟨fun hnone => ?_, fun other hother hequal => ?_, fun other hother hdiffers => ?_⟩⟩
  · rw [checkOutcome_programmed hstate hb]
    refine compareCheck_incomplete (j := j) ?_ b.check
    rw [State.setSite_sites, perSite_set_self, perSite_set_ne _ _ hij.symm, hnone]
  · rw [checkOutcome_complete hstate hb hij hother, if_pos hequal, commit_eq hb]
  · rw [checkOutcome_complete hstate hb hij hother, if_neg hdiffers]

/-! ## The ends of a binding (R77, R101, R102) and the tallies (R184, R185) -/

/-- STALL and MISMATCH have sources of their own, every other spoil is a LOSS (R101). -/
theorem spoilReason_source (reason : SpoilReason) :
    reason.source = if reason = .stall then .stall else if reason = .mismatch then .mismatch else .loss := by
  cases reason <;> rfl

/-- A return, whole up to its delivery (R77, R102). -/
theorem returnKey_eq {s : State} {n : Site} {b : Binding} (hb : s.sites[n].binding = some b) (next : SiteState) :
    s.returnKey n next =
      State.deliver
        { s with
          log := { s.log with reservations := s.log.reservations - 1 }
          sites := s.sites.set n
            { s.sites[n] with
              state := next, binding := none, capture := Vector.replicate 2 none, suspect := false,
              lastOutcome := .returned }
          timers := s.timers.set n { s.timers[n] with dwell := .stopped, watchdog := .stopped } }
        ⟨b.serial, b.key, b.check⟩ true := by
  rw [State.returnKey, hb]
  rfl

/-- The tally raised is one more, up to its highest value, and no other changes (R184, R185). -/
theorem get_raise (t : Tallies) (which other : Tally) :
    (t.raise which).get other = if other = which then raised (t.get other) else t.get other := by
  cases which <;> cases other <;> rfl

/-- Settles O25: the spoil and the return written out, and the tallies one by one. -/
theorem spoilsAndReturns : Obligations.SpoilsAndReturns := by
  refine ⟨fun s n reason next b hb _ => ?_, fun s n next b hb => returnKey_eq hb next,
    fun t which other => ⟨(get_raise t which which).trans (if_pos rfl),
      fun hne => (get_raise t which other).trans (if_neg hne)⟩⟩
  rw [spoil_eq hb, spoilReason_source]

end Sys2Proof.Machine.SiteEngine
end

section
/-! Reads of the claim window (R92): what each answers and does is the same in a part without its keys. -/

namespace Sys2Proof.Machine.SiteEngine

/-! ## The part without its keys (R92) -/

@[simp] theorem withoutKeys_lot (s : State) : s.withoutKeys.lot = s.lot := rfl
@[simp] theorem withoutKeys_lanes (s : State) : s.withoutKeys.lanes = s.lanes := rfl
@[simp] theorem withoutKeys_exc (s : State) : s.withoutKeys.exc = s.exc := rfl
@[simp] theorem withoutKeys_alert (s : State) : s.withoutKeys.alert = s.alert := rfl
@[simp] theorem withoutKeys_tallies (s : State) : s.withoutKeys.tallies = s.tallies := rfl
@[simp] theorem withoutKeys_pointers (s : State) : s.withoutKeys.pointers = s.pointers := rfl
@[simp] theorem withoutKeys_latches (s : State) : s.withoutKeys.latches = s.latches := rfl
@[simp] theorem withoutKeys_waiting (s : State) : s.withoutKeys.pool.waiting = s.pool.waiting := rfl
@[simp] theorem withoutKeys_ring (s : State) : s.withoutKeys.pool.ring = s.pool.ring := rfl
@[simp] theorem withoutKeys_highest (s : State) : s.withoutKeys.pool.highest = s.pool.highest := rfl
@[simp] theorem withoutKeys_sent (s : State) : s.withoutKeys.sent = [] := rfl
@[simp] theorem withoutKeys_image (s : State) : s.withoutKeys.image = s.image := rfl

/-- A key entry of the part without its keys. -/
def entryWithoutKey (e : KeyEntry) : KeyEntry := { e with key := Vector.replicate 8 0, check := Vector.replicate 2 0 }

/-- A site context of the part without its keys. -/
def siteWithoutKey (c : SiteContext) : SiteContext :=
  { c with
    binding := c.binding.map fun b => { b with key := Vector.replicate 8 0, check := Vector.replicate 2 0 }
    capture := Vector.replicate 2 none }

@[simp] theorem withoutKeys_deque (s : State) : s.withoutKeys.pool.deque = s.pool.deque.map entryWithoutKey := rfl

@[simp] theorem withoutKeys_site (s : State) (n : Site) : s.withoutKeys.sites[n] = siteWithoutKey s.sites[n] :=
  perSite_ofFn _ n

/-- Keys are left out once. -/
theorem withoutKeys_idem (s : State) : s.withoutKeys.withoutKeys = s.withoutKeys := by
  have hsites : s.withoutKeys.withoutKeys.sites = s.withoutKeys.sites := by
    refine perSite_ext fun n => ?_
    simp only [withoutKeys_site, siteWithoutKey, Option.map_map]
    rfl
  have hdeque : s.withoutKeys.withoutKeys.pool.deque = s.withoutKeys.pool.deque := by
    simp only [withoutKeys_deque, List.map_map]
    rfl
  have hunwrap : s.withoutKeys.withoutKeys.supply.unwrap = s.withoutKeys.supply.unwrap := by
    simp only [State.withoutKeys, Option.map_map]
    rfl
  have hparts : ∀ u : State, u.withoutKeys = { u with
      sites := u.withoutKeys.sites
      pool := { u.pool with deque := u.withoutKeys.pool.deque }
      supply := { u.supply with unwrap := u.withoutKeys.supply.unwrap }
      sent := [] } := fun _ => rfl
  rw [hparts s.withoutKeys, hsites, hdeque, hunwrap]
  rfl

/-! ## What the words show (R172, R173, R178 to R181) -/

theorem siteCode_withoutKeys (s : State) (n : Site) : s.withoutKeys.siteCode n = s.siteCode n := by
  simp only [State.siteCode, withoutKeys_site, withoutKeys_waiting, siteWithoutKey]

theorem siteSummary_withoutKeys (s : State) : s.withoutKeys.siteSummary = s.siteSummary := by
  simp only [State.siteSummary, funext (siteCode_withoutKeys s)]

theorem siteWord0_withoutKeys (s : State) (n : Site) : s.withoutKeys.siteWord0 n = s.siteWord0 n := by
  simp only [State.siteWord0, siteCode_withoutKeys, withoutKeys_site, withoutKeys_waiting, withoutKeys_lanes,
    siteWithoutKey, Option.isSome_map, Option.map_map]
  rfl

/-- The two serial words read the binding's serial, the others no binding (R179). -/
theorem sitePage_withoutKeys (s : State) (n : Site) (i : Nat) : s.withoutKeys.sitePage n i = s.sitePage n i := by
  unfold State.sitePage
  split
  case h_1 => exact siteWord0_withoutKeys s n
  case h_7 | h_8 => simp only [withoutKeys_site, siteWithoutKey, Option.map_map]; rfl
  all_goals simp only [withoutKeys_site, withoutKeys_exc, siteWithoutKey]

/-- The POOL page reads the deque's length and the serials of its two ends (R180). -/
theorem poolPage_withoutKeys (s : State) (i : Nat) : s.withoutKeys.poolPage i = s.poolPage i := by
  unfold State.poolPage
  split
  case h_3 | h_4 => simp only [withoutKeys_deque, List.head?_map, Option.map_map]; rfl
  case h_5 | h_6 => simp only [withoutKeys_deque, List.getLast?_map, Option.map_map]; rfl
  all_goals simp only [withoutKeys_deque, withoutKeys_waiting, withoutKeys_ring, withoutKeys_highest, List.length_map]

/-- No view page shows a key word, an expected check or a captured check word (R92). -/
theorem pageWord_withoutKeys (s : State) (p : ViewPage) (i : Nat) : s.withoutKeys.pageWord p i = s.pageWord p i := by
  cases p with
  | site n => exact sitePage_withoutKeys s n i
  | pool => exact poolPage_withoutKeys s i
  | log | table | lot => rfl

/-! ## What a read does -/

/-- An event hides the keys: `t` follows from the part `s`, `v` from it without its keys; both events send the same, and
the parts they leave differ in nothing else. -/
structure HidesKeys (s t v : State) : Prop where
  sent : t.sent = s.sent ++ v.sent
  state : t.withoutKeys = v.withoutKeys

/-- An answer hides the keys that its data and what came before it do not read or write. -/
theorem HidesKeys.answer {s t v : State} (hsent : t.sent = s.sent) (hkeys : t.withoutKeys = v) (n : Site) (st : Status)
    (data : Option Word) : HidesKeys s (t.answer n st data) (v.answer n st data) where
  sent := by rw [State.answer_sent, State.answer_sent, hsent, ← hkeys, withoutKeys_sent, List.nil_append]
  state := by
    have hkeep : ∀ u : State, (u.answer n st data).withoutKeys = u.withoutKeys := fun _ => rfl
    rw [hkeep, hkeep, ← hkeys, withoutKeys_idem]

/-- An exception raised with an answer (R4, R17). -/
theorem HidesKeys.answer_raiseExc (s : State) (n : Site) (st : Status) (k : ExcKind) :
    HidesKeys s ((s.answer n st).raiseExc n k) ((s.withoutKeys.answer n st).raiseExc n k) :=
  .answer (s := s) (t := s.raiseExc n k) rfl rfl n st none

/-- The conditions read how many keys the pool holds, and no key (R42, R79, R154). -/
theorem condition_withoutKeys (s : State) (src : Source) : s.withoutKeys.condition src = s.condition src := by
  cases src with
  | poolLow => simp only [State.condition, withoutKeys_lot, withoutKeys_deque, withoutKeys_image, List.length_map]
  | halt | logFull | stall | mismatch | siteException | loss | lot => rfl

theorem leaveService_withoutKeys (s : State) (src : Source) :
    (s.leaveService src).withoutKeys = s.withoutKeys.leaveService src := by
  simp only [State.leaveService, condition_withoutKeys]
  split <;> rfl

theorem leaveService_sent (s : State) (src : Source) : (s.leaveService src).sent = s.sent := by
  unfold State.leaveService
  split <;> rfl

/-- A READ of ALERT TAKE (R161). -/
theorem takeAlert_hidesKeys (s : State) (n : Site) : HidesKeys s (s.takeAlert n) (s.withoutKeys.takeAlert n) := by
  unfold State.takeAlert
  simp only [withoutKeys_alert]
  cases s.alert.highestEligible with
  | none => exact .answer rfl (by rfl) n .ok _
  | some src =>
    by_cases hauto : s.alert.autoEnd = true
    · simp only [hauto, if_true]
      exact .answer (by exact leaveService_sent _ src) (by exact leaveService_withoutKeys _ src) n .ok _
    · simp only [hauto]
      exact .answer (by rfl) (by rfl) n .ok _

/-- A READ of VIEW DATA (R178). -/
theorem readView_hidesKeys (s : State) (n : Site) : HidesKeys s (s.readView n) (s.withoutKeys.readView n) := by
  simp only [State.readView, pageWord_withoutKeys, withoutKeys_pointers]
  exact .answer (by rfl) (by rfl) n .ok _

/-- A READ of a TALLY word (R183). -/
theorem readTally_hidesKeys (s : State) (n : Site) (which : Tally) :
    HidesKeys s (s.readTally n which) (s.withoutKeys.readTally n which) := by
  simp only [State.readTally, withoutKeys_latches, withoutKeys_tallies]
  cases s.latches[n] with
  | none => exact .answer rfl (by rfl) n .ok _
  | some l =>
    cases hpending : (l.get which).pending with
    | true =>
      simp only [hpending, if_true]
      exact .answer (by rfl) (by rfl) n .ok _
    | false =>
      simp only [hpending]
      exact .answer rfl (by rfl) n .ok _

/-- A READ of any claim word (R171). -/
theorem claimRead_hidesKeys (s : State) (n : Site) (w : Fin 16) :
    HidesKeys s (s.claimRead n w) (s.withoutKeys.claimRead n w) := by
  unfold State.claimRead
  split
  case h_4 => exact takeAlert_hidesKeys s n
  case h_9 => exact readView_hidesKeys s n
  case h_11 | h_12 | h_13 | h_14 | h_15 => exact readTally_hidesKeys s n _
  case h_16 =>
    rw [siteSummary_withoutKeys]
    exact .answer rfl rfl n .ok _
  all_goals exact .answer rfl rfl n .ok _

theorem checkMode_withoutKeys (s : State) : s.withoutKeys.checkMode = s.checkMode := rfl

theorem claimWord_withoutKeys (s : State) (d : Address) : s.withoutKeys.claimWord d = s.claimWord d := rfl

/-- A READ request whose address names a claim word: answered there, or BUSY or PARITY before it (R4, R17). -/
theorem request_read_hidesKeys {s : State} {a : Address} (h : s.claimWord (s.checkMode.dieAddress a) ≠ none) (n : Site)
    (data : Word) : HidesKeys s (s.request n .read a data) (s.withoutKeys.request n .read a data) := by
  obtain ⟨w, hw⟩ := Option.ne_none_iff_exists'.1 h
  simp only [State.request, State.classify, withoutKeys_lanes, checkMode_withoutKeys, claimWord_withoutKeys, hw]
  split
  · split
    · exact .answer_raiseExc s n .parity .parity
    · exact claimRead_hidesKeys s n w
  · exact .answer_raiseExc s n .busy .overlap

/-- Settles O60: both parts do what the part without its keys does. -/
theorem claimWindowHidesKeys : Obligations.ClaimWindowHidesKeys := by
  intro s u t v n kindByte a data hsame hkind hclaim ht hv
  have hclaim' : u.claimWord (u.checkMode.dieAddress a) ≠ none := by
    rw [← claimWord_withoutKeys, ← checkMode_withoutKeys, ← hsame]
    exact hclaim
  rw [exec_dalRequest, hkind] at ht hv
  obtain rfl := Host.Outcome.next.inj ht
  obtain rfl := Host.Outcome.next.inj hv
  have hs := request_read_hidesKeys hclaim n data
  have hu := request_read_hidesKeys hclaim' n data
  rw [← hsame] at hu
  exact ⟨⟨_, hs.sent, hu.sent⟩, hs.state.trans hu.state.symm⟩

end Sys2Proof.Machine.SiteEngine
end

section
/-! The expiries of a site's timers: key-wait by the KEYLESS mask, dwell by what a die may hold of the key, and the
program watchdog. -/

namespace Sys2Proof.Machine.SiteExpiries

open KeyPool

/-! ## The tick that reaches the limit (R112) -/

/-- A running timer one short of its limit, or past it, expires at the next tick. -/
theorem lastTick_of_running {t : Timer} {count limit : Nat} (h : t = .running count limit) (hle : limit ≤ count + 1) :
    t.lastTick = true := by
  rw [h]
  exact decide_eq_true hle

theorem exec_keyWaitExpiry_last {s : State} {n : Site} (h : s.timers[n].keyWait.lastTick = true) :
    exec (.keyWaitExpiry n) s = .next (s.keyWaitExpired n) := by
  simp only [exec, execKeyWaitExpiry, if_pos h]

theorem exec_dwellExpiry_last {s : State} {n : Site} (h : s.timers[n].dwell.lastTick = true) :
    exec (.dwellExpiry n) s = .next (s.dwellExpired n) := by
  simp only [exec, execDwellExpiry, if_pos h]

theorem exec_programWatchdogExpiry_last {s : State} {n : Site} (h : s.timers[n].watchdog.lastTick = true) :
    exec (.programWatchdogExpiry n) s = .next (s.watchdogExpired n) := by
  simp only [exec, execProgramWatchdogExpiry, if_pos h]

/-! ## Key-wait expiry (R16, R87, R118) -/

/-- A site out of the waiting set with KEYLESS raised: what both KEYLESS paths start from (R118). -/
def keylessRaised (s : State) (n : Site) : State := ((s.stopKeyWait n).setWaiting n false).raiseExc n .keyless

theorem keylessRaised_eq (s : State) (n : Site) :
    keylessRaised s n =
      { s.raiseExc n .keyless with
        pool := { s.pool with waiting := s.pool.waiting.set n false }
        timers := s.timers.set n { s.timers[n] with keyWait := .stopped } } := rfl

theorem heldWrite_of_transaction {s : State} {n : Site} {t : Transaction} (h : s.lanes[n].transaction = some t) :
    s.heldWrite n = t := by
  rw [State.heldWrite, h, Option.getD_some]

/-- The masked KEYLESS path: a BLANK, and zeros in the held write (R87). -/
theorem keyWaitExpired_masked {s : State} {n : Site} {t : Transaction} (hwaiting : s.pool.waiting[n] = true)
    (hmask : s.masked .keyless = true) (ht : s.lanes[n].transaction = some t) :
    s.keyWaitExpired n =
      (((keylessRaised s n).blanked n).forward n { t with observed := true } (some 0)).finish := by
  simp only [State.keyWaitExpired, if_pos hwaiting, if_pos hmask, heldWrite_of_transaction ht, blank_eq, keylessRaised]

/-- The strict KEYLESS path: the reservation released, the held write refused, the lane IDLE (R16, R87). -/
theorem keyWaitExpired_strict {s : State} {n : Site} (hwaiting : s.pool.waiting[n] = true)
    (hmask : s.masked .keyless ≠ true) :
    s.keyWaitExpired n =
      State.finish
        { keylessRaised s n with
          log := { s.log with reservations := s.log.reservations - 1 }
          lanes := s.lanes.set n ⟨.idle, .stopped, none⟩
          sent := s.sent ++ [.upstream n ⟨.refused, none⟩] } := by
  simp only [State.keyWaitExpired, if_pos hwaiting, if_neg hmask]
  rfl

/-! ## Dwell expiry (R90, R121) -/

/-- A STAGING key that some die may hold of is spoiled (R90). -/
theorem endStaging_reached {s : State} {n : Site} {b : Binding} (hb : s.sites[n].binding = some b)
    (h : b.exposed = true ∨ b.inFlight ≠ none) (reason : SpoilReason) (spoiled returned : SiteState) :
    s.endStaging n reason spoiled returned = s.spoil n reason spoiled := by
  obtain ⟨-, heq⟩ | ⟨hreached, -⟩ := endStaging_cases hb reason spoiled returned
  · exact heq
  · exact absurd ((reached_iff b).2 h) (by simp [hreached])

/-- A STAGING key that no die holds of is returned (R90, R102). -/
theorem endStaging_unreached {s : State} {n : Site} {b : Binding} (hb : s.sites[n].binding = some b)
    (hexposed : b.exposed = false) (hflight : b.inFlight = none) (reason : SpoilReason)
    (spoiled returned : SiteState) :
    s.endStaging n reason spoiled returned = s.returnKey n returned := by
  obtain ⟨hreached, -⟩ | ⟨-, heq⟩ := endStaging_cases hb reason spoiled returned
  · simp [reached_iff, hexposed, hflight] at hreached
  · exact heq

theorem dwellExpired_reached {s : State} {n : Site} {b : Binding} (hb : s.sites[n].binding = some b)
    (h : b.exposed = true ∨ b.inFlight ≠ none) :
    s.dwellExpired n = ((s.stopBurnTimers n).spoil n .dwell .fault).finish := by
  rw [State.dwellExpired, endStaging_reached (s := s.stopBurnTimers n) hb h]

theorem dwellExpired_unreached {s : State} {n : Site} {b : Binding} (hb : s.sites[n].binding = some b)
    (hexposed : b.exposed = false) (hflight : b.inFlight = none) :
    s.dwellExpired n = ((s.stopBurnTimers n).returnKey n .ready).finish := by
  rw [State.dwellExpired, endStaging_unreached (s := s.stopBurnTimers n) hb hexposed hflight]

/-- Settles O30: each row is its timer's expiry; key-wait by the mask, dwell by what a die may hold of the key. -/
theorem siteTimerExpiries : Obligations.SiteTimerExpiries := by
  constructor
  · intro s n count limit t hrunning hle hwaiting ht gone
    have hgone : gone = keylessRaised s n := (keylessRaised_eq s n).symm
    rw [exec_keyWaitExpiry_last (lastTick_of_running hrunning hle)]
    by_cases hmask : s.masked .keyless = true
    · rw [if_pos hmask, keyWaitExpired_masked hwaiting hmask ht, hgone]
    · rw [if_neg hmask, keyWaitExpired_strict hwaiting hmask, hgone]
  · intro s n count limit b hle hb
    refine ⟨fun hrunning => ?_, fun hrunning => ?_⟩
    · rw [exec_dwellExpiry_last (lastTick_of_running hrunning hle)]
      refine ⟨fun hreached => ?_, fun hexposed hflight => ?_⟩
      · rw [dwellExpired_reached hb hreached, State.stopBurnTimers]
      · rw [dwellExpired_unreached hb hexposed hflight, State.stopBurnTimers]
    · rw [exec_programWatchdogExpiry_last (lastTick_of_running hrunning hle), State.watchdogExpired,
        State.stopBurnTimers]

end Sys2Proof.Machine.SiteExpiries
end

section
/-! Site exceptions: what raising one does, the guarded requests, and the commands that set the masks and empty the
sticky sets. -/

namespace Sys2Proof.Machine.SiteExceptions

open KeyPool LotStates

/-! ## Raising (R129) -/

/-- A report to SITE-EXCEPTION (R157): its latch is SET, and the site joins its site set. -/
theorem event_siteException (a : AlertController) (n : Site) :
    a.event .siteException (some n) =
      { a with
        latch := a.latch.set 3 true
        siteSets := { a.siteSets with siteException := a.siteSets.siteException.set n true } } := rfl

/-- An exception raised, whole: the sticky set in any case, the alert controller where the kind is STRICT. -/
theorem raiseExc_eq (s : State) (n : Site) (k : ExcKind) :
    s.raiseExc n k =
      { s with
        exc := { s.exc with sticky := s.exc.sticky.set n (s.exc.sticky[n].set k.index true) }
        alert := if s.exc.mask[k.index] then s.alert
          else { s.alert with
            latch := s.alert.latch.set 3 true
            siteSets := { s.alert.siteSets with siteException := s.alert.siteSets.siteException.set n true } } } := by
  rw [State.raiseExc, State.masked, event_siteException]

/-! ## Guarded requests (R131) -/

/-- A request that matches a GUARD entry is answered at the lane (R9, R131). -/
theorem exec_guarded {s : State} {n : Site} {kindByte : Byte} {a : Address} {offset : Option Nat}
    (h : s.ReachesRole n (Kind.ofByte kindByte) a .guard offset) (data : Word) :
    exec (requestOf n kindByte a data) s = .next (s.guarded n (Kind.ofByte kindByte)) :=
  exec_dalRequest_role rfl h

/-- A MASKED guarded request gets OK, with data 0 where it is a READ. -/
theorem guarded_masked {s : State} (h : s.masked .guard = true) (n : Site) (k : Kind) :
    s.guarded n k = (s.raiseExc n .guard).answer n .ok (if k = .read then some 0 else none) := by
  rw [State.guarded, h]
  cases k with
  | read | write => rfl

/-- A STRICT guarded request is refused. -/
theorem guarded_strict {s : State} (h : s.masked .guard ≠ true) (n : Site) (k : Kind) :
    s.guarded n k = (s.raiseExc n .guard).answer n .refused := by
  rw [State.guarded, Bool.eq_false_iff.2 h]
  rfl

/-- Settles O10: the match brings the request to the guard, which answers by its mask. -/
theorem guardedRequests : Obligations.GuardedRequests := by
  intro s n kindByte a data offset hreach
  rw [exec_guarded hreach]
  by_cases hmask : s.masked .guard = true
  · rw [if_pos hmask, guarded_masked hmask]
  · rw [if_neg hmask, guarded_strict hmask]

/-! ## MASK, EXCEPTION MASK and ALERT MASK (R134, R135, R159) -/

/-- A kind's code names that kind and no other (R193). -/
theorem kindArg_of_index {arg : Byte} {e : ExcKind} (h : arg.toNat = e.index.val) : kindArg arg = some e := by
  unfold kindArg
  rw [h]
  cases e with
  | keyless | guard | order | parity | timeout | late | overlap => rfl

/-- A code above 6 names no kind. -/
theorem kindArg_none {arg : Byte} (h : 7 ≤ arg.toNat) : kindArg arg = none := by
  unfold kindArg
  split
  case h_8 => rfl
  all_goals omega

/-- Each of the seven flags is a kind's. -/
theorem exists_kind_of_index (k : Fin 7) : ∃ e : ExcKind, e.index = k :=
  match k with
  | 0 => ⟨.keyless, rfl⟩
  | 1 => ⟨.guard, rfl⟩
  | 2 => ⟨.order, rfl⟩
  | 3 => ⟨.parity, rfl⟩
  | 4 => ⟨.timeout, rfl⟩
  | 5 => ⟨.late, rfl⟩
  | 6 => ⟨.overlap, rfl⟩

theorem exec_mask_idle {s : State} {n : Site} (h : s.lanes[n].state = .idle) (arg : Byte) (on : Bool) :
    exec (.mask n arg on) s = .next (s.cmdMask n arg on) :=
  congrArg Host.Outcome.next (onIdleLane_idle h _)

/-- MASK of a code that names no kind, or in UNLOADED and LOADING, is refused (R134). -/
theorem cmdMask_refused {s : State} {arg : Byte}
    (h : s.lot.state = .unloaded ∨ s.lot.state = .loading ∨ 7 ≤ arg.toNat) (n : Site) (on : Bool) :
    s.cmdMask n arg on = s.answer n .refused := by
  unfold State.cmdMask
  rcases h with hlot | hlot | harg
  · rw [hlot]; rfl
  · rw [hlot]; rfl
  · rw [kindArg_none harg]
    exact ite_self _

/-- MASK of a kind's code, in a lot state that admits it, sets the kind's flag (R134). -/
theorem cmdMask_kind {s : State} {arg : Byte} {k : Fin 7} (himage : s.lot.state.imageInForce = true)
    (harg : arg.toNat = k.val) (n : Site) (on : Bool) :
    s.cmdMask n arg on = State.answer { s with exc := { s.exc with mask := s.exc.mask.set k on } } n .ok := by
  obtain ⟨e, rfl⟩ := exists_kind_of_index k
  rw [State.cmdMask, if_pos himage, kindArg_of_index harg]

/-- The flags of a word from bit 0 on, bit by bit. -/
theorem flagsAt_zero (data : Word) (k : Nat) : flagsAt data 0 k = Vector.ofFn fun i : Fin k => data.getLsbD i.val :=
  ((eq_flagsAt_iff _ data 0).2 fun i => by rw [perSite_ofFn, Nat.zero_add]).symm

/-- EXCEPTION MASK replaces the seven flags in every lot state (R135). -/
theorem exec_exceptionMask_idle {s : State} {n : Site} (h : s.lanes[n].state = .idle) (data : Word) :
    exec (.exceptionMask n data) s = .next (State.answer
      { s with exc := { s.exc with mask := Vector.ofFn fun k : Fin 7 => data.getLsbD k.val } } n .ok) := by
  refine congrArg Host.Outcome.next ((onIdleLane_idle h _).trans ?_)
  rw [State.excMaskWrite, flagsAt_zero]

/-- ALERT MASK replaces the eight flags in every lot state (R159). -/
theorem exec_alertMask_idle {s : State} {n : Site} (h : s.lanes[n].state = .idle) (data : Word) :
    exec (.alertMask n data) s = .next (State.answer
      { s with alert := { s.alert with mask := Vector.ofFn fun k : Fin 8 => data.getLsbD k.val } } n .ok) := by
  refine congrArg Host.Outcome.next ((onIdleLane_idle h _).trans ?_)
  rw [State.alertMaskWrite, flagsAt_zero]

/-- Settles O46: MASK by its argument and the lot state, the two mask words, and the raising whole. -/
theorem exceptionsAndTheirMasks : Obligations.ExceptionsAndTheirMasks := by
  refine ⟨fun s n hidle => ⟨fun arg on => ⟨fun hrefused => ?_, fun k harg hne1 hne2 => ?_⟩, fun data => ?_⟩, raiseExc_eq⟩
  · rw [exec_mask_idle hidle, cmdMask_refused hrefused]
  · rw [exec_mask_idle hidle, cmdMask_kind (imageInForce_of_ne hne1 hne2) harg]
  · exact ⟨exec_exceptionMask_idle hidle data, exec_alertMask_idle hidle data⟩

/-! ## CLEAR-CHECKED and CLEAR-UNCHECKED (R138, R139, R167) -/

/-- A site set has no member exactly where it is the empty one. -/
theorem siteSet_any_eq_false_iff (v : SiteSet) : v.toList.any id = false ↔ v = Vector.replicate 8 false := by
  rw [List.any_eq_false]
  constructor
  · intro h
    refine perSite_ext fun n => ?_
    rw [perSite_replicate]
    exact Bool.eq_false_iff.2 (h _ (by simp))
  · intro h x hx
    rw [h, Vector.toList_replicate] at hx
    simp [List.eq_of_mem_replicate hx]

/-- Taking out a site that is not pending leaves the alert controller as it is (R139). -/
theorem removePending_of_not_pending {a : AlertController} {m : Site} (h : a.siteSets.siteException[m] = false) :
    a.removePending m = a := by
  rw [AlertController.removePending, h]
  rfl

/-- A pending site leaves the pending set, and where it was the last one the request is withdrawn (R139, R167). -/
theorem removePending_of_pending {a : AlertController} {m : Site} (h : a.siteSets.siteException[m] = true) :
    a.removePending m =
      { a with
        siteSets := { a.siteSets with siteException := a.siteSets.siteException.set m false }
        latch := if a.siteSets.siteException.set m false = Vector.replicate 8 false then a.latch.set 3 false
          else a.latch } := by
  rw [AlertController.removePending, if_pos h]
  dsimp only
  by_cases hempty : a.siteSets.siteException.set m false = Vector.replicate 8 false
  · rw [if_pos hempty, (siteSet_any_eq_false_iff _).2 hempty]
    rfl
  · rw [if_neg hempty, if_pos (Bool.eq_true_of_not_eq_false (mt (siteSet_any_eq_false_iff _).1 hempty))]

theorem exec_clearChecked_idle {s : State} {n : Site} (h : s.lanes[n].state = .idle) (arg : Byte) :
    exec (.clearChecked n arg) s = .next (s.withSiteArg n arg fun m =>
      if s.alert.siteSets.siteException[m] then s.answer n .refused else (s.clearSticky m).answer n .ok) :=
  congrArg Host.Outcome.next (onIdleLane_idle h _)

theorem exec_clearUnchecked_idle {s : State} {n : Site} (h : s.lanes[n].state = .idle) (arg : Byte) :
    exec (.clearUnchecked n arg) s = .next (s.withSiteArg n arg fun m =>
      State.answer { s.clearSticky m with alert := s.alert.removePending m } n .ok) :=
  congrArg Host.Outcome.next (onIdleLane_idle h _)

/-- Settles O47: the argument first, then whether the site it names is pending. -/
theorem clearCommands : Obligations.ClearCommands := by
  refine fun s n arg hidle => ⟨fun hrefused => ?_, fun m harg hne1 hne2 => ?_⟩
  · rw [exec_clearChecked_idle hidle, exec_clearUnchecked_idle hidle, withSiteArg_refused hrefused,
      withSiteArg_refused hrefused]
    exact ⟨rfl, rfl⟩
  · have himage := imageInForce_of_ne hne1 hne2
    rw [exec_clearChecked_idle hidle, exec_clearUnchecked_idle hidle, withSiteArg_eq himage harg,
      withSiteArg_eq himage harg]
    refine ⟨fun hpending => ⟨?_, ?_⟩, fun hpending => ⟨?_, ?_⟩⟩
    · rw [if_pos hpending]
    · rw [removePending_of_pending hpending]; rfl
    · rw [if_neg (Bool.eq_false_iff.1 hpending)]; rfl
    · rw [removePending_of_not_pending hpending]; rfl

end Sys2Proof.Machine.SiteExceptions
end

section
/-! Log records: the fields of a body by kind, the 48 bytes on the reel, and the record slots of the LOG page (R143,
R145, R180, R192, R193). -/

namespace Sys2Proof.Machine.LogLayout

open KeyPool

/-! ## Fields of a byte string (R190) -/

/-- Dropping leading bytes leaves the low bytes of the number. -/
theorem drop_bytesOfNat (start n v : Nat) : (bytesOfNat (start + n) v).drop start = bytesOfNat n v := by
  induction start with
  | zero => rw [Nat.zero_add, List.drop_zero]
  | succ start ih => rw [Nat.add_right_comm, bytesOfNat, List.drop_succ_cons, ih]

/-- The leading bytes spell the number without its low bytes. -/
theorem take_bytesOfNat (n low v : Nat) : (bytesOfNat (n + low) v).take n = bytesOfNat n (v / 256 ^ low) := by
  induction n with
  | zero => rfl
  | succ n ih =>
    rw [Nat.add_right_comm, bytesOfNat, List.take_succ_cons, ih, bytesOfNat, Nat.div_div_eq_div_mul, ← pow_add,
      Nat.add_comm low]

/-- A field inside the bytes of a number is the number's digits there. -/
theorem byteField_bytesOfNat (start n low v : Nat) :
    byteField (bytesOfNat (start + (n + low)) v) start n = v / 256 ^ low % 256 ^ n := by
  rw [byteField, drop_bytesOfNat, take_bytesOfNat, natOfBytes_bytesOfNat]

/-- A field that ends before what follows. -/
theorem byteField_append_left {front : List Byte} {start n : Nat} (h : start + n ≤ front.length) (rest : List Byte) :
    byteField (front ++ rest) start n = byteField front start n := by
  rw [byteField, List.drop_append_of_le_length (by omega),
    List.take_append_of_le_length (by rw [List.length_drop]; omega), byteField]

/-- A field after the bytes in front. -/
theorem byteField_append_right {front : List Byte} {start : Nat} (h : front.length = start) (rest : List Byte)
    (offset n : Nat) : byteField (front ++ rest) (start + offset) n = byteField rest offset n := by
  rw [byteField, ← h, List.drop_length_add_append, byteField]

/-- The number that opens a byte string. -/
theorem byteField_bytesOfNat_append (n v : Nat) (rest : List Byte) :
    byteField (bytesOfNat n v ++ rest) 0 n = v % 256 ^ n := by
  rw [byteField, List.drop_zero, List.take_left' (length_bytesOfNat n v), natOfBytes_bytesOfNat]

/-- A word, or a tally within its range, that opens a byte string. -/
theorem byteField_four_append {v : Nat} (h : v < 2 ^ 32) (rest : List Byte) :
    byteField (bytesOfNat 4 v ++ rest) 0 4 = v :=
  (byteField_bytesOfNat_append 4 v rest).trans (Nat.mod_eq_of_lt h)

/-- A serial that opens a byte string. -/
theorem byteField_serial_append (serial : Serial) (rest : List Byte) :
    byteField (bytesOfNat 6 serial.toNat ++ rest) 0 6 = serial.toNat :=
  (byteField_bytesOfNat_append 6 _ rest).trans (Nat.mod_eq_of_lt serial.isLt)

theorem byteField_zeros (m start n : Nat) : byteField (List.replicate m 0) start n = 0 := by
  rw [byteField, List.drop_replicate, List.take_replicate]
  induction min n (m - start) with
  | zero => rfl
  | succ count ih => rw [List.replicate_succ, natOfBytes_cons, ih]; exact Nat.zero_mul _

/-- Nothing but 0 after the number that opens a byte string. -/
theorem byteField_bytesOfNat_zeros (n v m : Nat) : byteField (bytesOfNat n v ++ List.replicate m 0) n m = 0 :=
  (byteField_append_right (length_bytesOfNat n v) _ 0 m).trans (byteField_zeros m 0 m)

/-- Number k of four-byte numbers written one after the other. -/
theorem byteField_flatMap_four {vs : List Nat} (hvs : ∀ v ∈ vs, v < 2 ^ 32) {k : Nat} (hk : k < vs.length) :
    byteField (vs.flatMap (bytesOfNat 4)) (4 * k) 4 = vs[k] := by
  induction vs generalizing k with
  | nil => exact absurd hk (Nat.not_lt_zero k)
  | cons v vs ih =>
    rw [List.flatMap_cons]
    cases k with
    | zero => exact byteField_four_append (hvs v List.mem_cons_self) _
    | succ k =>
      rw [Nat.mul_succ, Nat.add_comm, byteField_append_right (length_bytesOfNat 4 v)]
      exact ih (fun u hu => hvs u (List.mem_cons_of_mem v hu)) (Nat.lt_of_succ_lt_succ hk)

/-! ## Ident words (R192) -/

/-- The ident words as numbers, an absent one 0, written one after the other. -/
theorem identBytes_eq (ident : Ident) :
    Ident.bytes ident = (ident.toList.map fun w => (w.getD 0).toNat).flatMap (bytesOfNat 4) := by
  rw [List.flatMap_map]; rfl

@[simp] theorem length_identBytes (ident : Ident) : (Ident.bytes ident).length = 16 := by
  simp [Ident.bytes, List.length_flatMap]

theorem byteField_identBytes (ident : Ident) (i : Fin 4) :
    byteField (Ident.bytes ident) (4 * i.val) 4 = (ident[i].getD 0).toNat := by
  have hwords : ∀ v ∈ ident.toList.map fun w => (w.getD 0).toNat, v < 2 ^ 32 := by
    rintro _ hv
    obtain ⟨w, -, rfl⟩ := List.mem_map.1 hv
    exact (w.getD 0).isLt
  rw [identBytes_eq, byteField_flatMap_four hwords (by simp), List.getElem_map]
  rfl

theorem identFlags_eq (ident : Ident) : Ident.flags ident = flagsToNat (ident.map Option.isSome).toList := by
  rw [Ident.flags, Vector.toList_map]

/-- Flag i of byte 7 says whether ident word i is present. -/
theorem identFlags_eq_sum (ident : Ident) :
    Ident.flags ident = ∑ i : Fin 4, if ident[i].isSome then 2 ^ i.val else 0 := by
  have h := two_pow_mul_flagsToNat 0 (ident.map Option.isSome)
  simpa [identFlags_eq] using h

theorem identFlags_lt (ident : Ident) : Ident.flags ident < 16 :=
  (identFlags_eq ident).trans_lt (flagsToNat_toList_lt _)

/-! ## A body as sequence, header and payload (R192) -/

/-- A 32-byte body: the sequence, the four header bytes (kind, site, reason, flags), and bytes 8 to 31. -/
def bodyOf (seq : Word) (kind site reason flags : Byte) (payload : List Byte) : List Byte :=
  bytesOfNat 4 seq.toNat ++ ([kind, site, reason, flags] ++ payload)

/-- Bytes 8 to 31 of a record with a serial and ident words. -/
def serialAndIdent (serial : Serial) (ident : Ident) : List Byte :=
  bytesOfNat 6 serial.toNat ++ [0, 0] ++ Ident.bytes ident

theorem bodyBytes_opened (seq lotId : Word) :
    (LogRecord.mk seq (.opened lotId)).bodyBytes =
      bodyOf seq 1 0xFF 0 0 (bytesOfNat 4 lotId.toNat ++ List.replicate 20 0) := rfl

theorem bodyBytes_commit (seq : Word) (site : Site) (serial : Serial) (ident : Ident) (attempts : Nat) :
    (LogRecord.mk seq (.commit site serial ident attempts)).bodyBytes =
      bodyOf seq 2 (BitVec.ofNat 8 site.val) 0 (BitVec.ofNat 8 (Ident.flags ident + 32 * attempts))
        (serialAndIdent serial ident) := rfl

theorem bodyBytes_spoil (seq : Word) (site : Option Site) (serial : Serial) (reason : SpoilReason) (ident : Ident)
    (suspect : Bool) :
    (LogRecord.mk seq (.spoil site serial reason ident suspect)).bodyBytes =
      bodyOf seq 3 ((site.map fun n => BitVec.ofNat 8 n.val).getD 0xFF) (BitVec.ofNat 8 reason.code)
        (BitVec.ofNat 8 (Ident.flags ident + 16 * bit suspect)) (serialAndIdent serial ident) := rfl

theorem bodyBytes_blank (seq : Word) (site : Site) (ident : Ident) :
    (LogRecord.mk seq (.blank site ident)).bodyBytes =
      bodyOf seq 4 (BitVec.ofNat 8 site.val) 0 (BitVec.ofNat 8 (Ident.flags ident))
        (List.replicate 8 0 ++ Ident.bytes ident) := rfl

theorem bodyBytes_reject (seq : Word) (serial : Serial) (reason : RejectReason) :
    (LogRecord.mk seq (.reject serial reason)).bodyBytes =
      bodyOf seq 5 0xFF (BitVec.ofNat 8 reason.code) 0 (bytesOfNat 6 serial.toNat ++ List.replicate 18 0) := rfl

theorem bodyBytes_closed (seq : Word) (t : Tallies) :
    (LogRecord.mk seq (.closed t)).bodyBytes =
      bodyOf seq 6 0xFF 0 0
        ([t.fetched, t.rejected, t.committed, t.spoiled, t.blanked, 0].flatMap (bytesOfNat 4)) := rfl

theorem length_serialAndIdent (serial : Serial) (ident : Ident) : (serialAndIdent serial ident).length = 24 := by
  simp [serialAndIdent]

theorem length_bodyOf {payload : List Byte} (h : payload.length = 24) (seq : Word) (kind site reason flags : Byte) :
    (bodyOf seq kind site reason flags payload).length = 32 := by
  simp [bodyOf, h]

/-- Every kind's body has 32 bytes (R143). -/
theorem length_bodyBytes (r : LogRecord) : r.bodyBytes.length = 32 := by
  obtain ⟨seq, body⟩ := r
  cases body with
  | opened lotId => exact length_bodyOf (by simp) ..
  | commit site serial ident attempts => exact length_bodyOf (length_serialAndIdent serial ident) ..
  | spoil site serial reason ident suspect => exact length_bodyOf (length_serialAndIdent serial ident) ..
  | blank site ident => exact length_bodyOf (by simp) ..
  | reject serial reason => exact length_bodyOf (by simp) ..
  | closed t => exact length_bodyOf (by simp) ..

theorem length_bytes (r : LogRecord) : r.bytes.length = 48 := by
  rw [LogRecord.bytes, List.length_append, length_bodyBytes, length_bytesOfNat]

/-- The number in `n` bytes of a record's body, from byte `start` on. -/
def bodyField (seq : Word) (body : RecordBody) (start n : Nat) : Nat :=
  byteField (LogRecord.mk seq body).bodyBytes start n

theorem bodyField_seq (seq : Word) (body : RecordBody) : bodyField seq body 0 4 = seq.toNat :=
  byteField_four_append seq.isLt _

section
variable (seq : Word) (kind site reason flags : Byte) (payload : List Byte)

theorem byteField_bodyOf_payload (offset n : Nat) :
    byteField (bodyOf seq kind site reason flags payload) (8 + offset) n = byteField payload offset n := by
  rw [bodyOf, ← List.append_assoc, byteField_append_right (by simp)]

/-- The header in one number. -/
theorem byteField_bodyOf_header :
    byteField (bodyOf seq kind site reason flags payload) 4 4 = natOfBytes [kind, site, reason, flags] :=
  byteField_append_right (length_bytesOfNat 4 _) _ 0 4

/-- The header byte by byte. -/
theorem byteField_bodyOf_bytes :
    byteField (bodyOf seq kind site reason flags payload) 4 1 = kind.toNat ∧
    byteField (bodyOf seq kind site reason flags payload) 5 1 = site.toNat ∧
    byteField (bodyOf seq kind site reason flags payload) 6 1 = reason.toNat ∧
    byteField (bodyOf seq kind site reason flags payload) 7 1 = flags.toNat := by
  have hbyte : ∀ i, byteField (bodyOf seq kind site reason flags payload) (4 + i) 1 =
      byteField ([kind, site, reason, flags] ++ payload) i 1 :=
    fun i => byteField_append_right (length_bytesOfNat 4 _) _ i 1
  refine ⟨(hbyte 0).trans ?_, (hbyte 1).trans ?_, (hbyte 2).trans ?_, (hbyte 3).trans ?_⟩ <;>
    simp [byteField, natOfBytes]

end

/-! ## Payloads (R192) -/

theorem byteField_serialAndIdent_serial (serial : Serial) (ident : Ident) :
    byteField (serialAndIdent serial ident) 0 6 = serial.toNat := by
  rw [serialAndIdent, List.append_assoc, byteField_serial_append]

/-- The two bytes between the serial and the ident words are 0. -/
theorem byteField_serialAndIdent_unused (serial : Serial) (ident : Ident) :
    byteField (serialAndIdent serial ident) 6 2 = 0 := by
  rw [serialAndIdent, List.append_assoc]
  exact byteField_append_right (length_bytesOfNat 6 _) _ 0 2

/-- The ident words stand in bytes 16 to 31, whatever stands in bytes 8 to 15. -/
theorem byteField_bodyOf_ident {front : List Byte} (h : front.length = 8) (seq : Word) (kind site reason flags : Byte)
    (ident : Ident) (i : Fin 4) :
    byteField (bodyOf seq kind site reason flags (front ++ Ident.bytes ident)) (16 + 4 * i.val) 4 =
      (ident[i].getD 0).toNat := by
  rw [show 16 + 4 * i.val = 8 + (8 + 4 * i.val) by omega, byteField_bodyOf_payload, byteField_append_right h,
    byteField_identBytes]

/-- Bytes 8 to 31 of COMMIT and SPOIL. -/
theorem byteField_bodyOf_serialAndIdent (seq : Word) (kind site reason flags : Byte) (serial : Serial) (ident : Ident) :
    byteField (bodyOf seq kind site reason flags (serialAndIdent serial ident)) 8 6 = serial.toNat ∧
    byteField (bodyOf seq kind site reason flags (serialAndIdent serial ident)) 14 2 = 0 ∧
    ∀ i : Fin 4, byteField (bodyOf seq kind site reason flags (serialAndIdent serial ident)) (16 + 4 * i.val) 4 =
      (ident[i].getD 0).toNat :=
  ⟨(byteField_bodyOf_payload _ _ _ _ _ _ 0 6).trans (byteField_serialAndIdent_serial serial ident),
    (byteField_bodyOf_payload _ _ _ _ _ _ 6 2).trans (byteField_serialAndIdent_unused serial ident),
    byteField_bodyOf_ident (by simp) seq kind site reason flags ident⟩

/-- The site byte of a record with a site. -/
theorem toNat_siteByte (site : Site) : (BitVec.ofNat 8 site.val).toNat = site.val :=
  (BitVec.toNat_ofNat _ _).trans (Nat.mod_eq_of_lt (site.isLt.trans (by decide)))

theorem toNat_spoilReasonByte (reason : SpoilReason) : (BitVec.ofNat 8 reason.code).toNat = reason.code := by
  cases reason <;> rfl

theorem toNat_rejectReasonByte (reason : RejectReason) : (BitVec.ofNat 8 reason.code).toNat = reason.code := by
  cases reason <;> rfl

/-- Byte 7 with what stands above the ident bits, as long as it fits. -/
theorem toNat_flagsByte (ident : Ident) {above : Nat} (h : above ≤ 240) :
    (BitVec.ofNat 8 (Ident.flags ident + above)).toNat =
      (∑ i : Fin 4, if ident[i].isSome then 2 ^ i.val else 0) + above := by
  have hflags := identFlags_lt ident
  rw [← identFlags_eq_sum, BitVec.toNat_ofNat, Nat.mod_eq_of_lt (by omega)]

/-! ## The fields of each kind (R145, R192) -/

theorem bodyField_opened (seq lotId : Word) :
    bodyField seq (.opened lotId) 4 4 = 0x01FF0000 ∧
    bodyField seq (.opened lotId) 8 4 = lotId.toNat ∧
    bodyField seq (.opened lotId) 12 20 = 0 := by
  simp only [bodyField, bodyBytes_opened]
  refine ⟨byteField_bodyOf_header .., ?_, ?_⟩
  · exact (byteField_bodyOf_payload _ _ _ _ _ _ 0 4).trans (byteField_four_append lotId.isLt _)
  · exact (byteField_bodyOf_payload _ _ _ _ _ _ 4 20).trans (byteField_bytesOfNat_zeros 4 _ 20)

theorem bodyField_reject (seq : Word) (serial : Serial) (reason : RejectReason) :
    bodyField seq (.reject serial reason) 4 1 = 5 ∧
    bodyField seq (.reject serial reason) 5 1 = 0xFF ∧
    bodyField seq (.reject serial reason) 6 1 = reason.code ∧
    bodyField seq (.reject serial reason) 7 1 = 0 ∧
    bodyField seq (.reject serial reason) 8 6 = serial.toNat ∧
    bodyField seq (.reject serial reason) 14 18 = 0 := by
  simp only [bodyField, bodyBytes_reject]
  obtain ⟨hkind, hsite, hreason, hflags⟩ := byteField_bodyOf_bytes seq 5 0xFF (BitVec.ofNat 8 reason.code) 0
    (bytesOfNat 6 serial.toNat ++ List.replicate 18 0)
  refine ⟨hkind, hsite, hreason.trans (toNat_rejectReasonByte reason), hflags, ?_, ?_⟩
  · exact (byteField_bodyOf_payload _ _ _ _ _ _ 0 6).trans (byteField_serial_append serial _)
  · exact (byteField_bodyOf_payload _ _ _ _ _ _ 6 18).trans (byteField_bytesOfNat_zeros 6 _ 18)

theorem bodyField_commit (seq : Word) (site : Site) (serial : Serial) (ident : Ident) {attempts : Nat}
    (h : attempts < 8) :
    bodyField seq (.commit site serial ident attempts) 4 1 = 2 ∧
    bodyField seq (.commit site serial ident attempts) 5 1 = site.val ∧
    bodyField seq (.commit site serial ident attempts) 6 1 = 0 ∧
    bodyField seq (.commit site serial ident attempts) 7 1 =
      (∑ i : Fin 4, if ident[i].isSome then 2 ^ i.val else 0) + 2 ^ 5 * attempts ∧
    bodyField seq (.commit site serial ident attempts) 8 6 = serial.toNat ∧
    bodyField seq (.commit site serial ident attempts) 14 2 = 0 ∧
    ∀ i : Fin 4, bodyField seq (.commit site serial ident attempts) (16 + 4 * i.val) 4 = (ident[i].getD 0).toNat := by
  simp only [bodyField, bodyBytes_commit]
  obtain ⟨hkind, hsite, hreason, hflags⟩ := byteField_bodyOf_bytes seq 2 (BitVec.ofNat 8 site.val) 0
    (BitVec.ofNat 8 (Ident.flags ident + 32 * attempts)) (serialAndIdent serial ident)
  exact ⟨hkind, hsite.trans (toNat_siteByte site), hreason, hflags.trans (toNat_flagsByte ident (by omega)),
    byteField_bodyOf_serialAndIdent ..⟩

theorem bodyField_spoil (seq : Word) (site : Option Site) (serial : Serial) (reason : SpoilReason) (ident : Ident)
    (suspect : Bool) :
    bodyField seq (.spoil site serial reason ident suspect) 4 1 = 3 ∧
    bodyField seq (.spoil site serial reason ident suspect) 5 1 = (site.map Fin.val).getD 0xFF ∧
    bodyField seq (.spoil site serial reason ident suspect) 6 1 = reason.code ∧
    bodyField seq (.spoil site serial reason ident suspect) 7 1 =
      (∑ i : Fin 4, if ident[i].isSome then 2 ^ i.val else 0) + (if suspect then 2 ^ 4 else 0) ∧
    bodyField seq (.spoil site serial reason ident suspect) 8 6 = serial.toNat ∧
    bodyField seq (.spoil site serial reason ident suspect) 14 2 = 0 ∧
    ∀ i : Fin 4, bodyField seq (.spoil site serial reason ident suspect) (16 + 4 * i.val) 4 =
      (ident[i].getD 0).toNat := by
  simp only [bodyField, bodyBytes_spoil]
  obtain ⟨hkind, hsite, hreason, hflags⟩ := byteField_bodyOf_bytes seq 3
    ((site.map fun n => BitVec.ofNat 8 n.val).getD 0xFF) (BitVec.ofNat 8 reason.code)
    (BitVec.ofNat 8 (Ident.flags ident + 16 * bit suspect)) (serialAndIdent serial ident)
  have hbit := bit_le_one suspect
  refine ⟨hkind, hsite.trans ?_, hreason.trans (toNat_spoilReasonByte reason), ?_, byteField_bodyOf_serialAndIdent ..⟩
  · cases site with
    | none => rfl
    | some n => exact toNat_siteByte n
  · rw [hflags, toNat_flagsByte ident (by omega), ← two_pow_mul_bit 4 suspect]
    rfl

theorem bodyField_blank (seq : Word) (site : Site) (ident : Ident) :
    bodyField seq (.blank site ident) 4 1 = 4 ∧
    bodyField seq (.blank site ident) 5 1 = site.val ∧
    bodyField seq (.blank site ident) 6 1 = 0 ∧
    bodyField seq (.blank site ident) 7 1 = (∑ i : Fin 4, if ident[i].isSome then 2 ^ i.val else 0) ∧
    bodyField seq (.blank site ident) 8 8 = 0 ∧
    ∀ i : Fin 4, bodyField seq (.blank site ident) (16 + 4 * i.val) 4 = (ident[i].getD 0).toNat := by
  simp only [bodyField, bodyBytes_blank]
  obtain ⟨hkind, hsite, hreason, hflags⟩ := byteField_bodyOf_bytes seq 4 (BitVec.ofNat 8 site.val) 0
    (BitVec.ofNat 8 (Ident.flags ident)) (List.replicate 8 0 ++ Ident.bytes ident)
  refine ⟨hkind, hsite.trans (toNat_siteByte site), hreason,
    hflags.trans (toNat_flagsByte ident (above := 0) (by decide)), ?_,
    byteField_bodyOf_ident (List.length_replicate ..) _ _ _ _ _ ident⟩
  calc byteField _ (8 + 0) 8
    _ = byteField (List.replicate 8 0 ++ Ident.bytes ident) 0 8 := byteField_bodyOf_payload ..
    _ = byteField (List.replicate 8 0) 0 8 := byteField_append_left (by simp) _
    _ = 0 := byteField_zeros 8 0 8

theorem bodyField_closed (seq : Word) {t : Tallies} (ht : ∀ which, t.get which ≤ 0xFFFFFFFF) :
    bodyField seq (.closed t) 4 4 = 0x06FF0000 ∧
    ∀ k : Fin 6, bodyField seq (.closed t) (8 + 4 * k.val) 4 =
      [t.fetched, t.rejected, t.committed, t.spoiled, t.blanked, 0][k] := by
  have hbound : ∀ v ∈ [t.fetched, t.rejected, t.committed, t.spoiled, t.blanked, 0], v < 2 ^ 32 := by
    have hlt := fun which => Nat.lt_succ_of_le (ht which)
    simp only [List.forall_mem_cons]
    exact ⟨hlt .fetched, hlt .rejected, hlt .committed, hlt .spoiled, hlt .blanked, by decide, fun _ h => nomatch h⟩
  simp only [bodyField, bodyBytes_closed]
  exact ⟨byteField_bodyOf_header ..,
    fun k => (byteField_bodyOf_payload ..).trans (byteField_flatMap_four hbound k.isLt)⟩

/-! ## The words of a record (R193) -/

/-- Word j of a record is its bytes 4j to 4j + 3. -/
theorem toNat_word (r : LogRecord) {j : Nat} (hj : j < 12) : (r.word j).toNat = byteField r.bytes (4 * j) 4 := by
  have hbody := length_bodyBytes r
  rw [LogRecord.word, LogRecord.bytes]
  by_cases hlow : j < 8
  · have hlt : byteField r.bodyBytes (4 * j) 4 < 2 ^ 32 :=
      (natOfBytes_lt _).trans_le (Nat.pow_le_pow_right (by decide) (List.length_take_le 4 _))
    rw [if_pos hlow, byteField_append_left (by omega), ← byteField, BitVec.toNat_ofNat, Nat.mod_eq_of_lt hlt]
  · obtain ⟨i, rfl⟩ : ∃ i, j = 8 + i := ⟨j - 8, by omega⟩
    rw [if_neg hlow, Nat.mul_add, byteField_append_right hbody, BitVec.toNat_ofNat,
      show 16 = 4 * i + (4 + 4 * (3 - i)) by omega, byteField_bytesOfNat, show 11 - (8 + i) = 3 - i by omega,
      pow_mul 256, pow_mul 2]
    rfl

/-- Slot k of the LOG page shows record k, and 0 where none is held (R180). -/
theorem pageWord_log_slot (s : State) (k : Nat) {j : Nat} (hj : j < 12) :
    s.pageWord .log (2 + 12 * k + j) = (s.log.records[k]?.map (·.word j)).getD 0 := by
  have hslot : (2 + 12 * k + j - 2) / 12 = k := by omega
  have hword : (2 + 12 * k + j - 2) % 12 = j := by omega
  rw [State.pageWord, State.logPage, if_neg (by omega), if_neg (by omega), hslot, hword]
  cases s.log.records[k]? <;> rfl

/-- Settles O52: every body is a sequence, four header bytes and a payload of 24 bytes, so each field is read off the
part it lies in. -/
theorem logRecordsAre48Bytes : Obligations.LogRecordsAre48Bytes := by
  refine ⟨fun r => ⟨length_bodyBytes r, length_bytes r, fun j hj => toNat_word r hj⟩,
    fun s k j _ hj => ⟨fun r hr => ?held, fun hnone => ?empty⟩,
    fun seq body => ⟨bodyField_seq seq body, ?opened, ?commit, ?spoil, ?blank, ?reject, ?closed⟩⟩
  case held => rw [pageWord_log_slot s k hj, hr]; rfl
  case empty => rw [pageWord_log_slot s k hj, hnone]; rfl
  case opened =>
    rintro lotId rfl
    exact bodyField_opened seq lotId
  case commit =>
    rintro site serial ident attempts rfl hattempts
    exact bodyField_commit seq site serial ident hattempts
  case spoil =>
    rintro site serial reason ident suspect rfl
    obtain ⟨hkind, hsite, hrest⟩ := bodyField_spoil seq site serial reason ident suspect
    exact ⟨hkind, fun n hn => hsite.trans (by rw [hn]; rfl), fun hnone => hsite.trans (by rw [hnone]; rfl), hrest⟩
  case blank =>
    rintro site ident rfl
    exact bodyField_blank seq site ident
  case reject =>
    rintro serial reason rfl
    exact bodyField_reject seq serial reason
  case closed =>
    rintro t rfl ht
    obtain ⟨hheader, htally⟩ := bodyField_closed seq ht
    exact ⟨hheader, htally 0, htally 1, htally 2, htally 3, htally 4, htally 5⟩

end Sys2Proof.Machine.LogLayout
end

section
/-! The alert controller: which source is eligible, events and conditions, TAKE and its word, END, and what a source that
leaves service is latched to (R157, R160, R161, R163 to R166, R193). -/

namespace Sys2Proof.Machine.AlertControl

open KeyPool SiteExceptions

/-! ## Eligibility and the ALERT line (R160) -/

/-- A source is eligible by the four conditions of R160. The model asks for three: a source in service is not higher than
itself. -/
theorem eligible_iff (a : AlertController) (src : Source) :
    a.eligible src = true ↔
      a.latch[src.priority] = true ∧ a.mask[src.priority] = false ∧ src ∉ a.inService ∧
      ∀ other ∈ a.inService, src.priority < other.priority := by
  have hself : (∀ other ∈ a.inService, src.priority < other.priority) → src ∉ a.inService :=
    fun habove hmem => lt_irrefl _ (habove src hmem)
  rw [AlertController.eligible, AlertController.requested, Bool.and_eq_true, Bool.and_eq_true, Bool.not_eq_true',
    List.all_eq_true, and_assoc]
  simp only [decide_eq_true_eq, Fin.val_fin_lt]
  exact and_congr_right' (and_congr_right' ⟨fun habove => ⟨hself habove, habove⟩, And.right⟩)

/-- ALERT is asserted while some source is eligible. -/
theorem alertLine_iff (s : State) : s.alertLine = true ↔ ∃ src : Source, s.alert.eligible src = true := by
  rw [State.alertLine, List.any_eq_true]
  exact exists_congr fun src => and_iff_right (mem_sources src)

/-- Only one source is eligible with no eligible one above it, and a TAKE finds it (R161). -/
theorem highestEligible_eq_some {a : AlertController} {src : Source} (heligible : a.eligible src = true)
    (hhighest : ∀ other : Source, a.eligible other = true → src.priority ≤ other.priority) :
    a.highestEligible = some src := by
  cases hfound : a.highestEligible with
  | none => exact absurd heligible (by rw [highestEligible_none.1 hfound src]; decide)
  | some found =>
    obtain ⟨hfoundEligible, hfoundHighest⟩ := highestEligible_some hfound
    have hsame : found.priority = src.priority :=
      le_antisymm (hfoundHighest src heligible) (hhighest found hfoundEligible)
    rw [priority_injective _ _ hsame]

/-! ## Conditions and events (R42, R79, R154, R157) -/

theorem condition_halt_iff (s : State) : s.condition .halt = true ↔ s.lot.state = .halted :=
  beq_iff_eq

theorem condition_logFull_iff (s : State) :
    s.condition .logFull = true ↔ s.log.records.length + s.log.reservations = 16 :=
  beq_iff_eq

theorem condition_poolLow_iff (s : State) :
    s.condition .poolLow = true ↔ s.lot.state = .opened ∧ s.pool.deque.length ≤ s.image.lowLevel := by
  rw [State.condition, Bool.and_eq_true, beq_iff_eq, decide_eq_true_eq]

/-- Settles O48: eligibility with R160's third condition split off, and each event by the update it is. -/
theorem alertSourcesAndLine : Obligations.AlertSourcesAndLine :=
  ⟨fun s => ⟨eligible_iff s.alert, alertLine_iff s⟩,
    fun s => ⟨condition_halt_iff s, condition_logFull_iff s, condition_poolLow_iff s⟩,
    fun a n => ⟨rfl, rfl, event_siteException a n, rfl, rfl⟩⟩

/-! ## Leaving service and END (R163 to R165) -/

theorem isCondition_iff (src : Source) :
    src.isCondition = true ↔ src = .halt ∨ src = .logFull ∨ src = .poolLow := by
  cases src <;> decide

/-- A source that leaves service, whole (R165): off the list wherever it stands, a condition source latched by its
condition. -/
theorem leaveService_eq (s : State) (src : Source) :
    s.leaveService src =
      { s with alert :=
          { s.alert with
            inService := s.alert.inService.filter (· ≠ src)
            latch := if src = .halt ∨ src = .logFull ∨ src = .poolLow
              then s.alert.latch.set src.priority (s.condition src) else s.alert.latch } } := by
  have hfilter : s.alert.inService.filter (· != src) = s.alert.inService.filter (· ≠ src) :=
    List.filter_congr fun x _ => by rw [Bool.eq_iff_iff, bne_iff_ne, decide_eq_true_eq]
  rw [State.leaveService, ← hfilter]
  by_cases hsrc : src.isCondition = true
  · rw [if_pos hsrc, if_pos ((isCondition_iff src).1 hsrc)]
    rfl
  · rw [if_neg hsrc, if_neg (mt (isCondition_iff src).2 hsrc)]

/-- A priority number names the source that has it (R156, R164). -/
theorem ofPriority_eq {p : BitVec 3} {src : Source} (h : src.priority.val = p.toNat) : Source.ofPriority p = src := by
  unfold Source.ofPriority
  rw [← h]
  cases src with
  | halt | stall | mismatch | siteException | loss | logFull | poolLow | lot => rfl

theorem exec_alertEndNonSpecific_idle {s : State} {n : Site} (h : s.lanes[n].state = .idle) :
    exec (.alertEndNonSpecific n) s = .next (s.endAlert n) :=
  congrArg Host.Outcome.next (onIdleLane_idle h _)

theorem exec_alertEndSpecific_idle {s : State} {n : Site} (h : s.lanes[n].state = .idle) {p : BitVec 3} {src : Source}
    (hp : src.priority.val = p.toNat) : exec (.alertEndSpecific n p) s = .next (s.endAlertOf n src) := by
  refine congrArg Host.Outcome.next ((onIdleLane_idle h _).trans ?_)
  rw [ofPriority_eq hp]

/-- A non-specific END with nothing in service is refused (R163). -/
theorem endAlert_empty {s : State} (h : s.alert.inService = []) (n : Site) : s.endAlert n = s.answer n .refused := by
  rw [State.endAlert, h]
  rfl

/-- A non-specific END takes the source at the back (R163). -/
theorem endAlert_back {s : State} {front : List Source} {src : Source} (h : s.alert.inService = front ++ [src])
    (n : Site) : s.endAlert n = (s.leaveService src).answer n .ok := by
  rw [State.endAlert, h, List.getLast?_concat]

/-- Settles O50: which source an END names, and the source that leaves whole. -/
theorem alertEnd : Obligations.AlertEnd := by
  refine fun s n hidle => ⟨fun hempty => ?_, fun front src hback => ?_, fun p src hp => ⟨fun hmem => ?_, fun hout => ?_⟩,
    leaveService_eq s⟩
  · rw [exec_alertEndNonSpecific_idle hidle, endAlert_empty hempty]
  · rw [exec_alertEndNonSpecific_idle hidle, endAlert_back hback]
  · rw [exec_alertEndSpecific_idle hidle hp, State.endAlertOf, if_pos hmem]
  · rw [exec_alertEndSpecific_idle hidle hp, State.endAlertOf, if_neg hout]

/-! ## The word a TAKE returns (R193) -/

/-- Flag k of a set, read off as a number, is bit k. -/
theorem testBit_flagsToNat {flags : List Bool} {k : Nat} (hk : k < flags.length) :
    (flagsToNat flags).testBit k = flags[k] := by
  induction flags generalizing k with
  | nil => cases hk
  | cons b flags ih =>
    have hbit : flagsToNat (b :: flags) = Nat.bit b (flagsToNat flags) := by
      rw [flagsToNat, Nat.add_comm]
      cases b <;> rfl
    rw [hbit]
    cases k with
    | zero => exact Nat.testBit_bit_zero b _
    | succ k => exact (Nat.testBit_bit_succ k b _).trans (ih (Nat.lt_of_succ_lt_succ hk))

/-- The word of a source and its site set: the priority number in the low byte, the set in the byte above. -/
theorem toNat_takeWord (src : Source) (sites : SiteSet) :
    (takeWord (some src) sites).toNat = src.priority.val + 2 ^ 8 * flagsToNat sites.toList := by
  have hpriority := src.priority.isLt
  have hsites := flagsToNat_toList_lt sites
  have hlow : (place src.priority.val 0).toNat = src.priority.val := by
    rw [toNat_place (by omega)]
    omega
  rw [takeWord, toNat_or_place_above hlow (by omega) (by omega)]

/-- Bit 8 + m of the word says whether site m is in the set. -/
theorem getLsbD_takeWord (src : Source) (sites : SiteSet) (m : Site) :
    (takeWord (some src) sites).getLsbD (8 + m.val) = sites[m] := by
  have hpriority : src.priority.val < 2 ^ 8 := src.priority.isLt.trans (by decide)
  have hm : m.val < sites.toList.length := by rw [Vector.length_toList]; exact m.isLt
  rw [BitVec.getLsbD, toNat_takeWord, Nat.add_comm, Nat.testBit_two_pow_mul_add _ hpriority,
    if_neg (by omega), Nat.add_sub_cancel_left, testBit_flagsToNat hm, Vector.getElem_toList]
  rfl

/-! ## TAKE (R161, R166) -/

theorem exec_alertTake_idle {s : State} {n : Site} (h : s.lanes[n].state = .idle) :
    exec (.alertTake n) s = .next (s.takeAlert n) :=
  congrArg Host.Outcome.next (onIdleLane_idle h _)

/-- A source put in service (R161): its latch and its site set cleared, and it at the back of the list. -/
def putInService (s : State) (src : Source) : State :=
  { s with alert :=
      { s.alert with
        latch := s.alert.latch.set src.priority false
        siteSets := s.alert.siteSets.set (Vector.replicate 8 false) src
        inService := s.alert.inService ++ [src] } }

/-- A TAKE with no source eligible returns NONE and changes nothing (R161). -/
theorem takeAlert_none {s : State} (h : s.alert.highestEligible = none) (n : Site) :
    s.takeAlert n = s.answer n .ok (some 0xF) := by
  rw [State.takeAlert, h]
  rfl

/-- A TAKE returns the source it finds with its sites and puts it in service, which it leaves at once with auto-end ON
(R161, R166). -/
theorem takeAlert_some {s : State} {src : Source} (h : s.alert.highestEligible = some src) (n : Site) :
    s.takeAlert n =
      (if s.alert.autoEnd then (putInService s src).leaveService src else putInService s src).answer n .ok
        (some (takeWord (some src) (s.alert.siteSets.get src))) := by
  rw [State.takeAlert, h]
  rfl

/-- Settles O49: the source a TAKE finds is the highest eligible one, and its word holds the number and the sites. -/
theorem alertTake : Obligations.AlertTake := by
  refine fun s n hidle => ⟨fun hnone => ?_, fun src heligible hhighest => ?_⟩
  · rw [exec_alertTake_idle hidle, takeAlert_none (highestEligible_none.2 hnone)]
  · have hword := toNat_takeWord src (s.alert.siteSets.get src)
    have hpriority := src.priority.isLt
    have hsites := flagsToNat_toList_lt (s.alert.siteSets.get src)
    refine ⟨takeWord (some src) (s.alert.siteSets.get src), ?_, ?_, ?_, getLsbD_takeWord src _⟩
    · rw [exec_alertTake_idle hidle, takeAlert_some (highestEligible_eq_some heligible hhighest)]
      rfl
    · omega
    · omega

end Sys2Proof.Machine.AlertControl
end

section
/-! TALLY LATCH and the TALLY words: the snapshot, the value that a read releases, and the live tally (R182, R183). -/

namespace Sys2Proof.Machine.TallyWords

theorem exec_tallyLatch_idle {s : State} {n : Site} (h : s.lanes[n].state = .idle) :
    exec (.tallyLatch n) s = .next (s.latchTallies n) :=
  congrArg Host.Outcome.next (onIdleLane_idle h _)

theorem exec_tally_idle {s : State} {n : Site} (h : s.lanes[n].state = .idle) (which : Tally) :
    exec (.tally n which) s = .next (s.readTally n which) :=
  congrArg Host.Outcome.next (onIdleLane_idle h _)

/-! ## The latch (R182) -/

theorem latchTallies_empty {s : State} {n : Site} (h : s.latches[n] = none) :
    s.latchTallies n =
      State.answer { s with latches := s.latches.set n (some s.tallies.latch) } n .ok := by
  rw [State.latchTallies, h]

theorem latchTallies_held {s : State} {n : Site} {l : TallyLatch} (h : s.latches[n] = some l) :
    s.latchTallies n = s.answer n .ok := by
  rw [State.latchTallies, h]

/-! ## What a release leaves pending (R183) -/

/-- A release takes one value out of the pending ones. -/
theorem get_release_pending (l : TallyLatch) (which other : Tally) :
    ((l.release which).get other).pending = (other ≠ which && (l.get other).pending) := by
  cases which <;> cases other <;> rfl

theorem anyPending_eq_any (l : TallyLatch) :
    l.anyPending = [Tally.fetched, .rejected, .committed, .spoiled, .blanked].any fun t => (l.get t).pending := by
  simp only [TallyLatch.anyPending, TallyLatch.get, List.any_cons, List.any_nil, Bool.or_false, Bool.or_assoc]

/-- A latch keeps something pending exactly where another value than the one released is. -/
theorem anyPending_release (l : TallyLatch) (which : Tally) :
    (l.release which).anyPending = [Tally.fetched, .rejected, .committed, .spoiled, .blanked].any
      fun other => other ≠ which && (l.get other).pending := by
  simp only [anyPending_eq_any, get_release_pending]

/-! ## A TALLY word (R183) -/

theorem readTally_empty {s : State} {n : Site} (h : s.latches[n] = none) (which : Tally) :
    s.readTally n which = s.answer n .ok (some (BitVec.ofNat 32 (s.tallies.get which))) := by
  rw [State.readTally, h]

theorem readTally_released {s : State} {n : Site} {l : TallyLatch} (h : s.latches[n] = some l) {which : Tally}
    (hreleased : (l.get which).pending = false) :
    s.readTally n which = s.answer n .ok (some (BitVec.ofNat 32 (s.tallies.get which))) := by
  rw [State.readTally, h]
  exact if_neg (Bool.eq_false_iff.1 hreleased)

theorem readTally_pending {s : State} {n : Site} {l : TallyLatch} (h : s.latches[n] = some l) {which : Tally}
    (hpending : (l.get which).pending = true) :
    s.readTally n which =
      State.answer
        { s with latches :=
            s.latches.set n (if (l.release which).anyPending then some (l.release which) else none) }
        n .ok (some (BitVec.ofNat 32 (l.get which).value)) := by
  rw [State.readTally, h]
  exact if_pos hpending

/-- Settles O53: the write by whether the latch is empty, the read by whether its value is pending. -/
theorem tallyLatchAndTallyWords : Obligations.TallyLatchAndTallyWords := by
  refine fun s n hidle => ⟨fun hempty => ?_, fun l hheld => ?_, fun which =>
    ⟨fun hempty => ?_, fun l hheld hreleased => ?_, fun l hheld hpending => ?_⟩⟩
  · rw [exec_tallyLatch_idle hidle, latchTallies_empty hempty]
    rfl
  · rw [exec_tallyLatch_idle hidle, latchTallies_held hheld]
  · rw [exec_tally_idle hidle, readTally_empty hempty]
  · rw [exec_tally_idle hidle, readTally_released hheld hreleased]
  · rw [exec_tally_idle hidle, readTally_pending hheld hpending, anyPending_release]

end Sys2Proof.Machine.TallyWords
end

section
/-! LOT STATE, SITE SUMMARY and the SITE page, read back off their words (R172, R173, R179, R190, R193). -/

namespace Sys2Proof.Machine.StatusWords

open KeyPool LogLayout AlertControl

/-! ## A word packed from fields (R193) -/

/-- A field of a packed word: its lowest bit, how many bits it has, and the number it holds. -/
structure WordField where
  lo : Nat
  width : Nat
  value : Nat

/-- The number lies within the field, and the field within the word. -/
def WordField.Fits (f : WordField) : Prop := f.value < 2 ^ f.width ∧ f.lo + f.width ≤ 32

theorem fits_of {lo width value : Nat} (hvalue : value < 2 ^ width) (hword : lo + width ≤ 32) :
    (WordField.mk lo width value).Fits :=
  ⟨hvalue, hword⟩

/-- Bit i is one of the field's bits. -/
def WordField.Covers (f : WordField) (i : Nat) : Prop := f.lo ≤ i ∧ i < f.lo + f.width

/-- The word that holds the fields, and 0 elsewhere. -/
def packed (fields : List WordField) : Word := fields.foldl (fun w f => w ||| place f.value f.lo) 0#32

/-- Bit i of a number placed in a word. -/
theorem getLsbD_place (v lo i : Nat) :
    (place v lo).getLsbD i = (decide (i < 32) && (decide (lo ≤ i) && v.testBit (i - lo))) := by
  rw [place, BitVec.getLsbD_ofNat, Nat.testBit_mul_two_pow]

/-- A field that fits is 0 outside its own bits. -/
theorem getLsbD_place_of_not_covers {f : WordField} (hfits : f.Fits) {i : Nat} (h : ¬ f.Covers i) :
    (place f.value f.lo).getLsbD i = false := by
  rw [getLsbD_place]
  by_cases hlo : f.lo ≤ i
  · have hwidth : f.width ≤ i - f.lo := by
      have : ¬ i < f.lo + f.width := fun hi => h ⟨hlo, hi⟩
      omega
    have hbit : f.value.testBit (i - f.lo) = false :=
      Nat.testBit_lt_two_pow (hfits.1.trans_le (Nat.pow_le_pow_right (by decide) hwidth))
    rw [hbit, Bool.and_false, Bool.and_false]
  · rw [decide_eq_false hlo, Bool.false_and, Bool.and_false]

/-- A field that fits holds its number. -/
theorem getLsbD_place_add {f : WordField} (hfits : f.Fits) {i : Nat} (hi : i < f.width) :
    (place f.value f.lo).getLsbD (f.lo + i) = f.value.testBit i := by
  have hword : f.lo + i < 32 := (Nat.add_lt_add_left hi f.lo).trans_le hfits.2
  rw [getLsbD_place, decide_eq_true hword, decide_eq_true (Nat.le_add_right f.lo i), Bool.true_and, Bool.true_and,
    Nat.add_sub_cancel_left]

/-- A bit of a packed word is set where some field sets it. -/
theorem getLsbD_packed (fields : List WordField) (i : Nat) :
    (packed fields).getLsbD i = fields.any fun f => (place f.value f.lo).getLsbD i := by
  induction fields using List.reverseRecOn with
  | nil => exact BitVec.getLsbD_zero
  | append_singleton fields f ih =>
    have hlast : packed (fields ++ [f]) = packed fields ||| place f.value f.lo := by
      rw [packed, List.foldl_append]
      rfl
    rw [hlast, BitVec.getLsbD_or, ih, List.any_append, List.any_cons, List.any_nil, Bool.or_false]

/-- A bit of no field reads 0. -/
theorem getLsbD_packed_of_gap {fields : List WordField} (hfits : ∀ f ∈ fields, f.Fits) {i : Nat}
    (hgap : ∀ f ∈ fields, ¬ f.Covers i) : (packed fields).getLsbD i = false := by
  rw [getLsbD_packed, List.any_eq_false]
  intro f hf
  rw [getLsbD_place_of_not_covers (hfits f hf) (hgap f hf)]
  exact Bool.false_ne_true

/-- Where each field starts at or after the end of those before it, each one reads back. -/
theorem getLsbD_packed_field {fields : List WordField} (hfits : ∀ f ∈ fields, f.Fits)
    (hordered : fields.Pairwise fun f g => f.lo + f.width ≤ g.lo) {f : WordField} (hf : f ∈ fields) {i : Nat}
    (hi : i < f.width) : (packed fields).getLsbD (f.lo + i) = f.value.testBit i := by
  obtain ⟨before, after, rfl⟩ := List.append_of_mem hf
  obtain ⟨-, hafter, hbefore⟩ := List.pairwise_append.1 hordered
  have hown := getLsbD_place_add (hfits f hf) hi
  have hleft : (packed before).getLsbD (f.lo + i) = false :=
    getLsbD_packed_of_gap (fun g hg => hfits g (List.mem_append_left _ hg)) fun g hg hcovers => by
      have := hbefore g hg f List.mem_cons_self
      have := hcovers.2
      omega
  have hright : (packed after).getLsbD (f.lo + i) = false :=
    getLsbD_packed_of_gap (fun g hg => hfits g (List.mem_append_right _ (List.mem_cons_of_mem f hg)))
      fun g hg hcovers => by
        have := List.rel_of_pairwise_cons hafter hg
        have := hcovers.1
        omega
  rw [getLsbD_packed] at hleft hright ⊢
  rw [List.any_append, List.any_cons, hleft, hright, hown, Bool.false_or, Bool.or_false]

/-! ## The codes (R190) -/

theorem lotState_code_le (st : LotState) : st.code ≤ 5 := by cases st <;> decide

theorem haltCause_code_le (c : HaltCause) : c.code ≤ 4 := by cases c <;> decide

theorem loadError_code_le (e : LoadError) : e.code ≤ 4 := by cases e <;> decide

theorem resetCause_code_le (c : ResetCause) : c.code ≤ 1 := by cases c <;> decide

theorem siteCode_le (s : State) (n : Site) : s.siteCode n ≤ 8 := by
  unfold State.siteCode
  cases s.sites[n].state <;> cases s.pool.waiting[n] <;> decide

theorem laneState_code_lt (st : LaneState) : st.code < 2 ^ 2 := by cases st <;> decide

theorem lastOutcome_code_lt (o : LastOutcome) : o.code < 2 ^ 3 := by
  cases o with
  | spoil r => exact (by decide : 2 < 2 ^ 3)
  | none | commit | blank | returned => decide

theorem lastOutcome_reasonCode_lt (o : LastOutcome) : o.reasonCode < 2 ^ 3 := by
  cases o with
  | spoil r => cases r <;> decide
  | none | commit | blank | returned => decide

theorem bit_lt (b : Bool) : bit b < 2 ^ 1 := Nat.lt_succ_of_le (bit_le_one b)

/-- A flag's number has the flag as its one bit. -/
theorem testBit_bit_zero (b : Bool) : (bit b).testBit 0 = b := by cases b <;> rfl

/-! ## LOT STATE and SITE SUMMARY (R172, R173) -/

/-- LOT STATE is the sum of its five fields. -/
theorem toNat_lotStateWord (s : State) :
    s.lotStateWord.toNat = s.lot.state.code + 16 * s.lot.haltCause.code + 256 * s.lot.loadError.code +
      4096 * s.lot.resetCause.code + 65536 * (if s.supply.exhausted then 1 else 0) := by
  have hstate := lotState_code_le s.lot.state
  have hhalt := haltCause_code_le s.lot.haltCause
  have hload := loadError_code_le s.lot.loadError
  have hreset := resetCause_code_le s.lot.resetCause
  have hexhausted := bit_le_one s.supply.exhausted
  have h0 : (place s.lot.state.code 0).toNat = s.lot.state.code := (toNat_place (by omega)).trans (by omega)
  have h4 := toNat_or_place_above (lo := 4) (v := s.lot.haltCause.code) h0 (by omega) (by omega)
  have h8 := toNat_or_place_above (lo := 8) (v := s.lot.loadError.code) h4 (by omega) (by omega)
  have h12 := toNat_or_place_above (lo := 12) (v := s.lot.resetCause.code) h8 (by omega) (by omega)
  exact toNat_or_place_above (lo := 16) (v := bit s.supply.exhausted) h12 (by omega) (by omega)

/-- Digit n of SITE SUMMARY is the code of site n. -/
theorem siteSummary_digit (s : State) (n : Site) : s.siteSummary.toNat / 16 ^ n.val % 16 = s.siteCode n := by
  have hdigits : ∀ x ∈ (List.finRange 8).map s.siteCode, x < 16 := by
    intro x hx
    obtain ⟨m, -, rfl⟩ := List.mem_map.1 hx
    exact (siteCode_le s m).trans_lt (by decide)
  have hlt : nibbles ((List.finRange 8).map s.siteCode) < 2 ^ 32 := by
    have h := nibbles_lt hdigits
    rwa [List.length_map, List.length_finRange] at h
  have hword : s.siteSummary.toNat = nibbles ((List.finRange 8).map s.siteCode) :=
    (BitVec.toNat_ofNat _ _).trans (Nat.mod_eq_of_lt hlt)
  rw [hword]
  exact nibbles_digit hdigits (by simp)

/-! ## SITE page word 0 (R179) -/

/-- How many STAGE words of its key a site has; 0 without a binding. -/
def stageCount (c : SiteContext) : Nat := (c.binding.map fun b => b.stageSet.toList.countP id).getD 0

/-- Whether a site's key is exposed; not so without a binding. -/
def isExposed (c : SiteContext) : Bool := (c.binding.map (·.exposed)).getD false

/-- The fields of SITE page word 0, lowest first. -/
def siteFields (s : State) (n : Site) : List WordField :=
  [⟨0, 4, s.siteCode n⟩, ⟨4, 1, bit s.pool.waiting[n]⟩, ⟨5, 2, s.lanes[n].state.code⟩,
    ⟨7, 1, bit s.sites[n].binding.isSome⟩, ⟨8, 4, stageCount s.sites[n]⟩, ⟨12, 1, bit (isExposed s.sites[n])⟩,
    ⟨13, 3, s.sites[n].attempts⟩, ⟨16, 3, s.sites[n].lastOutcome.code⟩, ⟨19, 3, s.sites[n].lastOutcome.reasonCode⟩,
    ⟨24, 4, Ident.flags s.sites[n].ident⟩]

theorem siteWord0_eq_packed (s : State) (n : Site) : s.siteWord0 n = packed (siteFields s n) := by
  simp only [packed, siteFields, List.foldl_cons, List.foldl_nil, BitVec.zero_or]
  rfl

theorem stageCount_lt (c : SiteContext) : stageCount c < 2 ^ 4 := by
  unfold stageCount
  cases c.binding with
  | none => decide
  | some b =>
    have h : b.stageSet.toList.countP id ≤ b.stageSet.toList.length := List.countP_le_length
    rw [Vector.length_toList] at h
    exact h.trans_lt (by decide)

/-- No site has more attempts than a retry limit can be (R26, R94). -/
theorem attempts_lt {s : State} (h : s.AttemptsOk) (n : Site) : s.sites[n].attempts < 2 ^ 3 := by
  obtain ⟨hlimit, -, hsites⟩ := h
  exact ((hsites n).1.trans hlimit).trans_lt (by decide)

theorem siteFields_fit {s : State} (h : s.AttemptsOk) (n : Site) : ∀ f ∈ siteFields s n, f.Fits := by
  have hcode : s.siteCode n < 2 ^ 4 := (siteCode_le s n).trans_lt (by decide)
  simp only [siteFields, List.forall_mem_cons]
  exact ⟨fits_of hcode (by decide), fits_of (bit_lt _) (by decide), fits_of (laneState_code_lt _) (by decide),
    fits_of (bit_lt _) (by decide), fits_of (stageCount_lt _) (by decide), fits_of (bit_lt _) (by decide),
    fits_of (attempts_lt h n) (by decide), fits_of (lastOutcome_code_lt _) (by decide),
    fits_of (lastOutcome_reasonCode_lt _) (by decide), fits_of (identFlags_lt _) (by decide), fun _ hf => nomatch hf⟩

theorem siteFields_ordered (s : State) (n : Site) :
    (siteFields s n).Pairwise fun f g => f.lo + f.width ≤ g.lo := by
  simp [siteFields]

/-- Each field of the word reads back. -/
theorem siteWord0_fields {s : State} (h : s.AttemptsOk) (n : Site) :
    ∀ f ∈ siteFields s n, ∀ i, i < f.width → (s.pageWord (.site n) 0).getLsbD (f.lo + i) = f.value.testBit i := by
  intro f hf i hi
  have hword : s.pageWord (.site n) 0 = packed (siteFields s n) := siteWord0_eq_packed s n
  rw [hword]
  exact getLsbD_packed_field (siteFields_fit h n) (siteFields_ordered s n) hf hi

/-- The bits of no field. -/
theorem siteWord0_gap {s : State} (h : s.AttemptsOk) (n : Site) {i : Nat} (hi : i ∈ [22, 23, 28, 29, 30, 31]) :
    (s.pageWord (.site n) 0).getLsbD i = false := by
  have hword : s.pageWord (.site n) 0 = packed (siteFields s n) := siteWord0_eq_packed s n
  rw [hword]
  refine getLsbD_packed_of_gap (siteFields_fit h n) ?_
  simp only [siteFields, List.forall_mem_cons, WordField.Covers]
  fin_cases hi <;> decide

theorem testBit_identFlags (ident : Ident) (i : Fin 4) : (Ident.flags ident).testBit i.val = ident[i].isSome := by
  rw [identFlags_eq, testBit_flagsToNat (by rw [Vector.length_toList]; exact i.isLt)]
  simp

/-! ## SITE page words 1 to 7 (R179) -/

/-- The one field of SITE page word 1. -/
def stickyField (s : State) (n : Site) : WordField := ⟨0, 7, flagsToNat s.exc.sticky[n].toList⟩

theorem sitePage_sticky_eq_packed (s : State) (n : Site) : s.pageWord (.site n) 1 = packed [stickyField s n] :=
  BitVec.zero_or.symm

theorem stickyField_fits (s : State) (n : Site) : ∀ f ∈ [stickyField s n], f.Fits :=
  List.forall_mem_singleton.2 (fits_of (flagsToNat_toList_lt _) (by decide))

/-- Bit k of word 1 is sticky flag k. -/
theorem sitePage_sticky (s : State) (n : Site) (k : Fin 7) :
    (s.pageWord (.site n) 1).getLsbD k.val = s.exc.sticky[n][k] := by
  have hk : k.val < s.exc.sticky[n].toList.length := by rw [Vector.length_toList]; exact k.isLt
  have hfield := getLsbD_packed_field (f := stickyField s n) (stickyField_fits s n) (List.pairwise_singleton _ _)
    List.mem_cons_self k.isLt
  calc (s.pageWord (.site n) 1).getLsbD k.val
    _ = (packed [stickyField s n]).getLsbD (0 + k.val) := by rw [sitePage_sticky_eq_packed, Nat.zero_add]
    _ = (flagsToNat s.exc.sticky[n].toList).testBit k.val := hfield
    _ = s.exc.sticky[n].toList[k.val] := testBit_flagsToNat hk
    _ = s.exc.sticky[n][k] := Vector.getElem_toList hk

theorem sitePage_sticky_gap (s : State) (n : Site) {i : Nat} (hi : 7 ≤ i) :
    (s.pageWord (.site n) 1).getLsbD i = false := by
  have houtside : ¬ (stickyField s n).Covers i := fun hcovers => absurd hcovers.2 (Nat.not_lt.2 hi)
  rw [sitePage_sticky_eq_packed]
  exact getLsbD_packed_of_gap (stickyField_fits s n) (List.forall_mem_singleton.2 houtside)

/-- Words 2 to 5 are the ident words, 0 where one is absent. -/
theorem sitePage_ident (s : State) (n : Site) (i : Fin 4) :
    s.pageWord (.site n) (2 + i.val) = s.sites[n].ident[i].getD 0 := by
  fin_cases i <;> rfl

theorem serialHigh_eq_setWidth (serial : Serial) :
    serialHigh serial = (serial.setWidth 64 >>> 32).setWidth 32 := by
  have hserial := serial.isLt
  apply BitVec.eq_of_toNat_eq
  rw [toNat_serialHigh, BitVec.toNat_setWidth, BitVec.toNat_ushiftRight, BitVec.toNat_setWidth,
    Nat.shiftRight_eq_div_pow]
  omega

theorem serialLow_eq_setWidth (serial : Serial) : serialLow serial = serial.setWidth 32 :=
  BitVec.eq_of_toNat_eq ((toNat_serialLow serial).trans (BitVec.toNat_setWidth ..).symm)

/-- Words 6 and 7 are the serial of the key bound, in two words. -/
theorem sitePage_serial_bound {s : State} {n : Site} {b : Binding} (hb : s.sites[n].binding = some b) :
    s.pageWord (.site n) 6 = (b.serial.setWidth 64 >>> 32).setWidth 32 ∧
      s.pageWord (.site n) 7 = b.serial.setWidth 32 := by
  simp only [State.pageWord, State.sitePage, hb, Option.map_some, Option.getD_some]
  exact ⟨serialHigh_eq_setWidth b.serial, serialLow_eq_setWidth b.serial⟩

theorem sitePage_serial_unbound {s : State} {n : Site} (hb : s.sites[n].binding = none) :
    s.pageWord (.site n) 6 = 0 ∧ s.pageWord (.site n) 7 = 0 := by
  simp only [State.pageWord, State.sitePage, hb]
  exact ⟨rfl, rfl⟩

/-- Settles O13: LOT STATE as the sum of its fields, SITE SUMMARY digit by digit, and the SITE page's words 0 and 1 as
packed fields that read back, with the bits between them 0. -/
theorem statusAndSiteWords : Obligations.StatusAndSiteWords := by
  refine ⟨fun s => ⟨toNat_lotStateWord s, siteSummary_digit s⟩, fun s n hattempts => ?_⟩
  have hfields := siteWord0_fields hattempts n
  simp only [siteFields, List.forall_mem_cons] at hfields
  obtain ⟨hcode, hwaiting, hlane, hbound, hstage, hexposed, htries, houtcome, hreason, hident, -⟩ := hfields
  refine ⟨⟨hcode, hwaiting, hlane, hbound, fun b hb => ?_, fun hb => ?_, htries, houtcome, hreason,
    fun i => ⟨fun j hj => ?_, sitePage_ident s n i⟩⟩,
    fun i => siteWord0_gap hattempts n, sitePage_sticky s n, fun i => sitePage_sticky_gap s n⟩
  · rw [stageCount, hb] at hstage
    rw [isExposed, hb] at hexposed
    exact ⟨hstage, hexposed, sitePage_serial_bound hb⟩
  · rw [stageCount, hb] at hstage
    rw [isExposed, hb] at hexposed
    exact ⟨hstage, hexposed, sitePage_serial_unbound hb⟩
  · obtain rfl : j = 0 := Nat.lt_one_iff.1 hj
    rw [testBit_bit_zero, ← testBit_identFlags]
    exact hident i.val i.isLt

end Sys2Proof.Machine.StatusWords
end

section
/-! The balance of keys, the log's room and the reservations (R52, R66, R142, R149, R186): what each operation moves
between those who hold a key or a reservation. -/

namespace Sys2Proof.Machine.LotAccounting

open LotStates ReelSupply

/-! ## The counts (R52, R66, R142, R149, R186) -/

/-- What the statement counts: the keys in the pool, the bindings, the waiting sites, the draw in flight, the records,
the reservations, the lot ceiling, and the tallies of keys. -/
structure Counts where
  pooled : Nat
  bound : Nat
  waiting : Nat
  drawn : Nat
  records : Nat
  reserved : Nat
  ceiling : Nat
  fetched : Nat
  committed : Nat
  spoiled : Nat

/-- The counts of a state. -/
def counts (s : State) : Counts where
  pooled := s.pool.deque.length
  bound := s.bindings
  waiting := s.waiters
  drawn := s.draws
  records := s.log.records.length
  reserved := s.log.reservations
  ceiling := s.image.ceiling
  fetched := s.tallies.fetched
  committed := s.tallies.committed
  spoiled := s.tallies.spoiled

/-- The statement's invariants on the counts, within an event: `keys` keys have left one holder and have not reached the
next (a key leaves the pool before it is bound), and so have `loans` reservations (one is lent before it is used). -/
structure Counts.Balance (c : Counts) (keys loans : Nat) : Prop where
  balance : c.fetched = c.pooled + c.bound + keys + c.committed + c.spoiled
  fetched : c.fetched + c.drawn < 2 ^ 24
  ceiling : c.ceiling < 2 ^ 24
  room : c.records + c.reserved ≤ 16
  reserved : c.reserved = c.bound + c.waiting + c.drawn + loans
  fit : c.pooled + c.bound + c.drawn + keys ≤ 32

/-! Each move of a key or a reservation keeps the balance, by linear arithmetic. -/

section

variable {c : Counts} {k l : Nat}

/-- A reservation lent is on its way to its holder. -/
theorem Counts.Balance.lend (h : c.Balance k l) (hroom : c.records + c.reserved < 16) :
    Balance { c with reserved := c.reserved + 1 } k (l + 1) := by
  obtain ⟨⟩ := h
  constructor <;> dsimp only <;> omega

/-- A reservation that its holder has given up is released. -/
theorem Counts.Balance.release (h : c.Balance k (l + 1)) :
    Balance { c with reserved := c.reserved - 1 } k l := by
  obtain ⟨⟩ := h
  constructor <;> dsimp only <;> omega

/-- A record takes the place of the reservation that its holder has given up. -/
theorem Counts.Balance.record (h : c.Balance k (l + 1)) :
    Balance { c with records := c.records + 1, reserved := c.reserved - 1 } k l := by
  obtain ⟨⟩ := h
  constructor <;> dsimp only <;> omega

/-- Another number of records, for which the log has room. -/
theorem Counts.Balance.setRecords (h : c.Balance k l) {r : Nat} (hroom : r + c.reserved ≤ 16) :
    Balance { c with records := r } k l :=
  ⟨h.balance, h.fetched, h.ceiling, hroom, h.reserved, h.fit⟩

/-- A key leaves the pool. -/
theorem Counts.Balance.take (h : c.Balance k l) {p : Nat} (hp : c.pooled = p + 1) :
    Balance { c with pooled := p } (k + 1) l := by
  obtain ⟨⟩ := h
  constructor <;> dsimp only <;> omega

/-- A key joins the pool. -/
theorem Counts.Balance.put (h : c.Balance (k + 1) l) : Balance { c with pooled := c.pooled + 1 } k l := by
  obtain ⟨⟩ := h
  constructor <;> dsimp only <;> omega

/-- A tally below the bound on FETCHED does not stand still (R185). -/
theorem raised_of_lt {x : Nat} (h : x < 2 ^ 24) : raised x = x + 1 := if_pos (by omega)

/-- A key is spoiled. -/
theorem Counts.Balance.spoil (h : c.Balance (k + 1) l) : Balance { c with spoiled := raised c.spoiled } k l := by
  obtain ⟨⟩ := h
  rw [raised_of_lt (x := c.spoiled) (by omega)]
  constructor <;> dsimp only <;> omega

/-- A key is committed. -/
theorem Counts.Balance.commit (h : c.Balance (k + 1) l) :
    Balance { c with committed := raised c.committed } k l := by
  obtain ⟨⟩ := h
  rw [raised_of_lt (x := c.committed) (by omega)]
  constructor <;> dsimp only <;> omega

/-- A binding gives up its key and its reservation. -/
theorem Counts.Balance.unbind (h : c.Balance k l) {b : Nat} (hb : c.bound = b + 1) :
    Balance { c with bound := b } (k + 1) (l + 1) := by
  obtain ⟨⟩ := h
  constructor <;> dsimp only <;> omega

/-- A key is bound with a reservation. -/
theorem Counts.Balance.bind (h : c.Balance (k + 1) (l + 1)) : Balance { c with bound := c.bound + 1 } k l := by
  obtain ⟨⟩ := h
  constructor <;> dsimp only <;> omega

/-- A waiting site gives up its reservation. -/
theorem Counts.Balance.unwait (h : c.Balance k l) {w : Nat} (hw : c.waiting = w + 1) :
    Balance { c with waiting := w } k (l + 1) := by
  obtain ⟨⟩ := h
  constructor <;> dsimp only <;> omega

/-- A site waits with a reservation. -/
theorem Counts.Balance.wait (h : c.Balance k (l + 1)) : Balance { c with waiting := c.waiting + 1 } k l := by
  obtain ⟨⟩ := h
  constructor <;> dsimp only <;> omega

/-- A draw starts with a reservation, below the ceiling and below 32 keys (R52). -/
theorem Counts.Balance.draw (h : c.Balance 0 0) (hdrawn : c.drawn = 0) (hceiling : c.fetched + c.drawn < c.ceiling)
    (hroom : c.records + c.reserved < 16) (hfit : c.pooled + c.bound + c.drawn < 32) :
    Balance { c with drawn := 1, reserved := c.reserved + 1 } 0 0 := by
  obtain ⟨⟩ := h
  constructor <;> dsimp only <;> omega

/-- The draw gives up its reservation. -/
theorem Counts.Balance.undraw (h : c.Balance k l) (hdrawn : c.drawn = 1) :
    Balance { c with drawn := 0 } k (l + 1) := by
  obtain ⟨⟩ := h
  constructor <;> dsimp only <;> omega

/-- The draw gives up its reservation and brings a key, which is FETCHED (R56). -/
theorem Counts.Balance.accept (h : c.Balance 0 0) (hdrawn : c.drawn = 1) :
    Balance { c with drawn := 0, fetched := raised c.fetched } 1 1 := by
  obtain ⟨⟩ := h
  rw [raised_of_lt (x := c.fetched) (by omega)]
  constructor <;> dsimp only <;> omega

/-- Where no key and no reservation is held, and none has been. -/
theorem balance_of_none_held {ceiling records : Nat} (hceiling : ceiling < 2 ^ 24) (hroom : records ≤ 16) :
    Counts.Balance ⟨0, 0, 0, 0, records, 0, ceiling, 0, 0, 0⟩ 0 0 :=
  ⟨rfl, Nat.two_pow_pos 24, hceiling, hroom, rfl, Nat.zero_le 32⟩

end

/-! ## The ledger of a state

`Ledger keys loans` reads nothing but the parts that hold keys and reservations, so that an operation which leaves these
alone keeps it by definition. -/

/-- No second draw starts beside one in flight, which is FETCH on the port or a BUSY unwrap unit (R44, R52). -/
def DrawShown (port : PortState) (draw : Option DrawStage) (unwrap : Option KeyRecord) : Prop :=
  draw.isSome = true → port = .fetch ∨ unwrap.isSome = true

/-- A site waits without a key (R72, R82). -/
def WaitKeyless (sites : PerSite SiteContext) (waiting : SiteSet) : Prop :=
  ∀ n : Site, waiting[n] = true → sites[n].binding = none

/-- The counts balance, and what the next draw and the next delivery rest on. -/
structure LedgerParts (keys loans : Nat) (c : Counts) (port : PortState) (draw : Option DrawStage)
    (unwrap : Option KeyRecord) (sites : PerSite SiteContext) (waiting : SiteSet) : Prop where
  counts : c.Balance keys loans
  draw : DrawShown port draw unwrap
  keyless : WaitKeyless sites waiting

/-- The ledger of a state, with `keys` keys and `loans` reservations on their way. -/
def Ledger (keys loans : Nat) (s : State) : Prop :=
  LedgerParts keys loans (counts s) s.supply.port s.supply.draw s.supply.unwrap s.sites s.pool.waiting

section

variable {s u : State} {n : Site} {k l : Nat}

/-- With nothing on its way, the ledger holds the statement's five invariants. -/
theorem Ledger.invariants (h : Ledger 0 0 s) :
    s.Balanced ∧ s.CeilingOk ∧ s.LogRoom ∧ s.ReservationsOk ∧ s.KeysFit :=
  have ⟨hkeys, hfetched, hceiling, hroom, hreserved, hfit⟩ := h.counts
  ⟨hkeys, ⟨hfetched, hceiling⟩, hroom, hreserved, hfit⟩

theorem ledger_of_coherent (h : s.Coherent) : Ledger 0 0 s := by
  refine ⟨⟨h.balance, h.ceiling.1, h.ceiling.2, h.room, h.reservations, h.fit⟩, fun hdraw => ?_, fun m hm => ?_⟩
  · obtain ⟨-, htransfer, hunwrap, -⟩ := h.supply
    obtain ⟨stage, hstage⟩ := Option.isSome_iff_exists.1 hdraw
    cases stage with
    | transfer => exact .inl (htransfer.1 hstage)
    | unwrap => exact .inr (hunwrap.1 hstage)
  · obtain ⟨hkey, -⟩ := h.sites m
    obtain ⟨-, hready, -⟩ := h.waits m
    rw [hready hm] at hkey
    exact Option.not_isSome_iff_eq_none.1 fun hbound => Bool.noConfusion (hkey.1 hbound)

/-! ### What holds no key and no reservation -/

theorem Ledger.setLane (h : Ledger k l s) (lane : Lane) : Ledger k l (s.setLane n lane) := h

theorem Ledger.setTimers (h : Ledger k l s) (t : SiteTimers) : Ledger k l (s.setTimers n t) := h

theorem Ledger.stopKeyWait (h : Ledger k l s) : Ledger k l (s.stopKeyWait n) := h

theorem Ledger.answer (h : Ledger k l s) (st : Status) (d : Option Word) : Ledger k l (s.answer n st d) := h

theorem Ledger.forward (h : Ledger k l s) (t : Transaction) (d : Option Word) : Ledger k l (s.forward n t d) := h

theorem Ledger.raiseExc (h : Ledger k l s) (e : ExcKind) : Ledger k l (s.raiseExc n e) := h

theorem Ledger.alertEvent (h : Ledger k l s) (src : Source) (site : Option Site) :
    Ledger k l (s.alertEvent src site) := h

/-! ### Reservations and records (R142, R143, R147) -/

theorem Ledger.lend (h : Ledger k l s) (hlend : s.canLend = true) : Ledger k (l + 1) s.lend :=
  ⟨h.counts.lend ((canLend_iff s).1 hlend), h.draw, h.keyless⟩

theorem Ledger.releaseRes (h : Ledger k (l + 1) s) : Ledger k l s.releaseRes :=
  ⟨h.counts.release, h.draw, h.keyless⟩

theorem counts_enqueue (s : State) (body : RecordBody) :
    counts (s.enqueue body) = { counts s with records := s.log.records.length + 1 } := by
  rw [counts, State.enqueue_log, List.length_append]
  rfl

/-- A record that needs no reservation, where the log has room (R151). -/
theorem Ledger.enqueue (h : Ledger k l s) (hlend : s.canLend = true) (body : RecordBody) :
    Ledger k l (s.enqueue body) := by
  refine ⟨?_, h.draw, h.keyless⟩
  rw [counts_enqueue]
  have hroom := (canLend_iff s).1 hlend
  exact h.counts.setRecords (show s.log.records.length + 1 + s.log.reservations ≤ 16 by omega)

theorem Ledger.useRes (h : Ledger k (l + 1) s) (body : RecordBody) : Ledger k l (s.useRes body) := by
  refine ⟨?_, h.draw, h.keyless⟩
  have hcounts : counts (s.useRes body) = { counts (s.enqueue body) with reserved := s.log.reservations - 1 } := rfl
  rw [hcounts, counts_enqueue]
  exact h.counts.record

/-! ### Keys in the pool, and the tallies (R64, R184) -/

/-- A deque with one key less. -/
theorem Ledger.takeKey (h : Ledger k l s) {deque : List KeyEntry} (hlength : s.pool.deque.length = deque.length + 1) :
    Ledger (k + 1) l { s with pool := { s.pool with deque := deque } } :=
  ⟨h.counts.take hlength, h.draw, h.keyless⟩

/-- A deque with one key more. -/
theorem Ledger.putKey (h : Ledger (k + 1) l s) {deque : List KeyEntry}
    (hlength : deque.length = s.pool.deque.length + 1) :
    Ledger k l { s with pool := { s.pool with deque := deque } } := by
  refine ⟨?_, h.draw, h.keyless⟩
  have hcounts : counts { s with pool := { s.pool with deque := deque } } = { counts s with pooled := deque.length } :=
    rfl
  rw [hcounts, hlength]
  exact h.counts.put

theorem Ledger.raise_spoiled (h : Ledger (k + 1) l s) : Ledger k l (s.raiseTally .spoiled) :=
  ⟨h.counts.spoil, h.draw, h.keyless⟩

theorem Ledger.raise_committed (h : Ledger (k + 1) l s) : Ledger k l (s.raiseTally .committed) :=
  ⟨h.counts.commit, h.draw, h.keyless⟩

/-! ### Sites and the waiting set -/

/-- A site context without a key, or at a site that does not wait. -/
theorem WaitKeyless.setSite {sites : PerSite SiteContext} {waiting : SiteSet} (h : WaitKeyless sites waiting)
    {c : SiteContext} (hc : waiting[n] = true → c.binding = none) : WaitKeyless (sites.set n c) waiting :=
  forall_perSite_set (P := fun m (c : SiteContext) => waiting[m] = true → c.binding = none) hc h

/-- A site context with a key exactly where the old one has one. -/
theorem Ledger.setSite (h : Ledger k l s) {c : SiteContext} (hc : c.binding.isSome = s.sites[n].binding.isSome) :
    Ledger k l (s.setSite n c) := by
  have hbound : (s.setSite n c).bindings = s.bindings := by
    have hset := bindings_set s n c
    rw [hc] at hset
    exact Nat.add_right_cancel hset
  have hcounts : counts (s.setSite n c) = { counts s with bound := (s.setSite n c).bindings } := rfl
  refine ⟨?_, h.draw, h.keyless.setSite fun hwaits => ?_⟩
  · rw [hcounts, hbound]
    exact h.counts
  · rw [← Option.not_isSome_iff_eq_none, hc, h.keyless n hwaits]
    exact Bool.false_ne_true

/-- A site context that gives up its key. -/
theorem Ledger.setSite_unbound (h : Ledger k l s) (hb : s.sites[n].binding.isSome = true) {c : SiteContext}
    (hc : c.binding = none) : Ledger (k + 1) (l + 1) (s.setSite n c) := by
  have hbound : s.bindings = (s.setSite n c).bindings + 1 := by
    have hset := bindings_set s n c
    rw [if_pos hb, hc] at hset
    exact hset.symm
  exact ⟨h.counts.unbind hbound, h.draw, h.keyless.setSite fun _ => hc⟩

/-- A site context that takes a key, at a site without one that does not wait. -/
theorem Ledger.setSite_bound (h : Ledger (k + 1) (l + 1) s) (hb : s.sites[n].binding = none)
    (hn : s.pool.waiting[n] = false) {c : SiteContext} (hc : c.binding.isSome = true) : Ledger k l (s.setSite n c) := by
  have hbound : (s.setSite n c).bindings = s.bindings + 1 := by
    have hset := bindings_set s n c
    rw [if_pos hc, hb] at hset
    exact hset
  have hcounts : counts (s.setSite n c) = { counts s with bound := (s.setSite n c).bindings } := rfl
  refine ⟨?_, h.draw, h.keyless.setSite fun hwaits => absurd hwaits (by rw [hn]; exact Bool.false_ne_true)⟩
  rw [hcounts, hbound]
  exact h.counts.bind

theorem Ledger.unsetWaiting (h : Ledger k l s) (hn : s.pool.waiting[n] = true) :
    Ledger k (l + 1) (s.setWaiting n false) := by
  have hwaiters : s.waiters = (s.setWaiting n false).waiters + 1 := by
    have hset := waiters_set s n false
    rw [if_pos hn] at hset
    exact hset.symm
  exact ⟨h.counts.unwait hwaiters, h.draw, forall_perSite_set (P := fun m b => b = true → s.sites[m].binding = none)
    (fun hwaits => nomatch hwaits) h.keyless⟩

theorem Ledger.setWaiting (h : Ledger k (l + 1) s) (hn : s.pool.waiting[n] = false) (hb : s.sites[n].binding = none) :
    Ledger k l (s.setWaiting n true) := by
  have hwaiters : (s.setWaiting n true).waiters = s.waiters + 1 := by
    have hset := waiters_set s n true
    rw [hn] at hset
    exact hset
  have hcounts : counts (s.setWaiting n true) = { counts s with waiting := (s.setWaiting n true).waiters } := rfl
  refine ⟨?_, h.draw, forall_perSite_set (P := fun m b => b = true → s.sites[m].binding = none) (fun _ => hb)
    h.keyless⟩
  rw [hcounts, hwaiters]
  exact h.counts.wait

/-! ### The draw and the port (R44, R46, R52, R60) -/

theorem draws_of_isSome (h : s.supply.draw.isSome = true) : s.draws = 1 := if_pos h

/-- The draw ended, and the unwrap unit IDLE. -/
def drawEnded (s : State) : State :=
  { s with supply := { s.supply with draw := none, fetchReservation := false, unwrap := none } }

theorem Ledger.drawEnded (h : Ledger k l s) (hdraw : s.supply.draw.isSome = true) :
    Ledger k (l + 1) (drawEnded s) :=
  ⟨h.counts.undraw (draws_of_isSome hdraw), (fun hnone => nomatch hnone), h.keyless⟩

/-- A port that carries no FETCH is made FREE. -/
theorem Ledger.freePort (h : Ledger k l s) (hport : s.supply.port ≠ .fetch) : Ledger k l s.freePort :=
  ⟨h.counts, fun hdraw => .inr ((h.draw hdraw).resolve_left hport), h.keyless⟩

/-- The operation on the port abandoned, and the draw with it. -/
theorem Ledger.freePort_endDraw (h : Ledger k l s) : Ledger k l s.freePort.endDraw := by
  by_cases hdraw : s.supply.draw.isSome = true
  · rw [endDraw_eq (s := s.freePort) (Option.isSome_iff_ne_none.1 hdraw)]
    have hreleased := (h.drawEnded hdraw).releaseRes
    exact ⟨hreleased.counts, (fun hnone => nomatch hnone), h.keyless⟩
  · rw [State.endDraw, if_neg (by exact hdraw)]
    exact ⟨h.counts, fun hsome => absurd hsome hdraw, h.keyless⟩

/-- Where a FETCH is wanted at a FREE port no draw is in flight. -/
theorem Ledger.startFetch (h : Ledger 0 0 s) (hport : s.supply.port = .free) (hwanted : s.fetchWanted = true) :
    Ledger 0 0 s.startFetch := by
  obtain ⟨-, -, hceiling, hunwrap, hroom, hfit, -⟩ := (fetchWanted_iff s).1 hwanted
  have hnone : ¬s.supply.draw.isSome = true := fun hdraw => by
    have hshown := h.draw hdraw
    rw [hport, hunwrap] at hshown
    exact hshown.elim nofun nofun
  exact ⟨h.counts.draw (if_neg hnone) hceiling hroom hfit, fun _ => .inl rfl, h.keyless⟩

theorem Ledger.startAppend (h : Ledger k l s) (hport : s.supply.port = .free) : Ledger k l s.startAppend :=
  ⟨h.counts, fun hdraw => .inr ((h.draw hdraw).resolve_left (by rw [hport]; nofun)), h.keyless⟩

theorem Ledger.arbitrate (h : Ledger 0 0 s) : Ledger 0 0 s.arbitrate := by
  rcases arbitrate_cases s with ⟨e, -⟩ | ⟨e, hport, hwanted⟩ | ⟨e, hport, -⟩ <;> rw [e]
  · exact h
  · exact h.startFetch hport hwanted
  · exact h.startAppend hport

/-! ### The end of an event (R37, R38, R58, R151) -/

/-- The key at the back of the pool is spoiled on a reservation lent and used in one step (R37). -/
theorem Ledger.spoilUnused (h : Ledger k l s) (hdue : s.unusedDue = true) : Ledger k l s.spoilUnused := by
  obtain ⟨-, hlend, kept, e, hdeque⟩ := unusedDue_back hdue
  have hlength : s.pool.deque.length = s.pool.deque.dropLast.length + 1 := by simp [hdeque]
  have hback : s.pool.deque.getLast? = some e := by simp [hdeque]
  simp only [State.spoilUnused, hback]
  have htaken : Ledger (k + 1) l { s with pool := { s.pool with deque := s.pool.deque.dropLast } } := h.takeKey hlength
  exact ((htaken.lend hlend).useRes _).raise_spoiled

theorem Ledger.queueClose (h : Ledger k l s) (hdue : s.closeDue = true) : Ledger k l s.queueClose := by
  obtain ⟨-, -, -, hlend⟩ := (closeDue_iff s).1 hdue
  exact h.enqueue hlend _

theorem Ledger.finish (h : Ledger 0 0 s) : Ledger 0 0 s.finish :=
  finish_induct (P := Ledger 0 0) (fun _ h hport hwanted => h.startFetch hport hwanted)
    (fun _ h hport _ => h.startAppend hport) (fun _ h hdue => h.spoilUnused hdue) (fun _ h _ hdue => h.queueClose hdue)
    (fun _ h => h) s h

/-! ### Keys (04, 05) -/

/-- A key and a reservation on their way reach a site without a key that does not wait (R86). -/
theorem Ledger.bindKey (h : Ledger (k + 1) (l + 1) s) (hb : s.sites[n].binding = none) (hn : s.pool.waiting[n] = false)
    (e : KeyEntry) (o : Fin 8) : Ledger k l (s.bindKey n e o) :=
  h.setSite_bound hb hn rfl

/-- A key on its way, handed to a waiting site, is bound with the reservation that the site held (R73). -/
theorem Ledger.handOut (h : Ledger (k + 1) l s) (hn : s.pool.waiting[n] = true) (e : KeyEntry) :
    Ledger k l (s.handOut n e) :=
  Ledger.bindKey (s := { (s.setWaiting n false).stopKeyWait n with pool := _ }) (h.unsetWaiting hn)
    (h.keyless n hn) (perSite_set_self _ _ _) e _

theorem Ledger.deliver (h : Ledger (k + 1) l s) (e : KeyEntry) (front : Bool) : Ledger k l (s.deliver e front) := by
  rcases deliver_cases s e front with ⟨n, hn, heq⟩ | ⟨-, heq⟩ <;> rw [heq]
  · exact h.handOut (recipient_some hn).1 e
  · exact h.putKey (by cases front <;> simp)

/-- A binding that ends puts its key and its reservation on their way. -/
theorem Ledger.endBinding (h : Ledger k l s) {b : Binding} (hb : s.sites[n].binding = some b) (next : SiteState)
    (last : LastOutcome) : Ledger (k + 1) (l + 1) (s.endBinding n next last) :=
  h.setSite_unbound (by rw [hb]; rfl) rfl

/-! A spoil and a commit write the record and raise the tally first; the log, the tallies and the site are apart, so
that the binding may as well end before them. -/

theorem endBinding_useRes (s : State) (n : Site) (body : RecordBody) (next : SiteState) (last : LastOutcome) :
    (s.useRes body).endBinding n next last = (s.endBinding n next last).useRes body := rfl

theorem endBinding_raiseTally (s : State) (n : Site) (t : Tally) (next : SiteState) (last : LastOutcome) :
    (s.raiseTally t).endBinding n next last = (s.endBinding n next last).raiseTally t := rfl

/-- The record takes over the reservation of the binding that ends, and SPOILED its key (R101). -/
theorem Ledger.spoil (h : Ledger k l s) (r : SpoilReason) (next : SiteState) : Ledger k l (s.spoil n r next) := by
  unfold State.spoil
  split
  · exact h
  · next b hb =>
    rw [endBinding_raiseTally, endBinding_useRes]
    exact ((h.endBinding hb next (.spoil r)).useRes _).raise_spoiled.alertEvent _ _

/-- The record takes over the reservation of the binding that ends, and COMMITTED its key (R100). -/
theorem Ledger.commit (h : Ledger k l s) : Ledger k l (s.commit n) := by
  unfold State.commit
  split
  · exact h
  · next b hb =>
    rw [endBinding_raiseTally, endBinding_useRes]
    exact ((h.endBinding hb .finished .commit).useRes _).raise_committed

/-- The reservation of the binding that ends is released, and its key delivered (R102). -/
theorem Ledger.returnKey (h : Ledger k l s) (next : SiteState) : Ledger k l (s.returnKey n next) := by
  unfold State.returnKey
  split
  · exact h
  · next b hb => exact (h.endBinding hb next .returned).releaseRes.deliver _ true

theorem Ledger.endStaging (h : Ledger k l s) (r : SpoilReason) (spoiled returned : SiteState) :
    Ledger k l (s.endStaging n r spoiled returned) := by
  unfold State.endStaging
  split
  · exact h
  · split
    · exact h.spoil r spoiled
    · exact h.returnKey returned

/-- A BLANK record on a reservation that its holder has given up (R87). -/
theorem Ledger.blank (h : Ledger k (l + 1) s) : Ledger k l (s.blank n) :=
  have hused : Ledger k l ((s.useRes (.blank n s.sites[n].ident)).raiseTally .blanked) := h.useRes _
  hused.setSite rfl

theorem Ledger.dropHeld (h : Ledger k l s) (hn : s.pool.waiting[n] = true) (st : Status) :
    Ledger k l (s.dropHeld n st) :=
  ((h.unsetWaiting hn).stopKeyWait.releaseRes.answer st none).setLane Lane.idle

theorem Ledger.leaveOpen (h : Ledger k l s) : Ledger k l s.leaveOpen :=
  leaveOpen_induct (P := Ledger k l) (fun _ _ hu hn => hu.dropHeld hn .refused) s h

/-! ### The lot (02) -/

theorem Ledger.halt (h : Ledger k l s) (c : HaltCause) : Ledger k l (s.halt c) := by
  unfold State.halt
  split
  · have hended : Ledger k l s.leaveOpen.freePort.endDraw := h.leaveOpen.freePort_endDraw
    generalize s.leaveOpen.freePort.endDraw = u at hended ⊢
    exact hended
  · exact h

/-- The held writes and the operation on the port end independently. -/
theorem leaveOpen_freePort (s : State) : s.freePort.leaveOpen = s.leaveOpen.freePort := by
  unfold State.leaveOpen
  generalize List.finRange 8 = sites
  refine List.foldl_hom State.freePort fun u n => ?_
  show (if u.pool.waiting[n] then u.freePort.dropHeld n .refused else u.freePort) = _
  split <;> rfl

theorem freePort_freePort (s : State) : s.freePort.freePort = s.freePort := rfl

/-- A halt frees the port of an active lot, whether or not it is FREE already (R41, R57, R61 to R63). -/
theorem freePort_halt (hactive : s.lot.state = .opened ∨ s.lot.state = .draining) (c : HaltCause) :
    s.freePort.halt c = s.halt c := by
  rw [halt_of_active hactive, halt_of_active (s := s.freePort) hactive, leaveOpen_freePort, freePort_freePort]

/-- IMAGE starts on a port that carries no FETCH. -/
theorem Ledger.enterLoading (h : Ledger k l s) (hport : s.supply.port ≠ .fetch) : Ledger k l s.enterLoading := by
  have hdraw : s.supply.draw.isSome = true → s.supply.unwrap.isSome = true := fun hsome =>
    (h.draw hsome).resolve_left hport
  unfold State.enterLoading
  split <;> exact ⟨h.counts, fun hsome => .inr (hdraw hsome), h.keyless⟩

/-- Lot open ends every binding (R33). -/
theorem bindings_lotOpen (s : State) (im : LotImage) : (s.lotOpen im).bindings = 0 :=
  (bindings_eq_zero _).2 fun m => by
    have hsite : (s.lotOpen im).sites[m] = SiteContext.atOpen s.timers[m].debouncer := perSite_ofFn _ m
    rw [hsite]
    cases s.timers[m].debouncer <;> rfl

/-- Lot open leaves no key and no reservation from before, and the OPEN record in the log (R33, R150). -/
theorem ledger_lotOpen (s : State) {im : LotImage} (hceiling : im.ceiling < 2 ^ 24) : Ledger 0 0 (s.lotOpen im) := by
  have hcounts : counts (s.lotOpen im) = ⟨0, (s.lotOpen im).bindings, 0, 0, 1, 0, im.ceiling, 0, 0, 0⟩ := rfl
  refine ⟨?_, (fun hnone => nomatch hnone), fun m hm => ?_⟩
  · rw [hcounts, bindings_lotOpen]
    exact balance_of_none_held hceiling (by decide)
  · have hnone : (s.lotOpen im).pool.waiting[m] = false := perSite_replicate false m
    rw [hnone] at hm
    cases hm

end

end Sys2Proof.Machine.LotAccounting
end

section
/-! The ledger row by row: a row that starts with no key and no reservation on its way ends so (R52, R66, R142, R149,
R186). -/

namespace Sys2Proof.Machine.LotAccounting

open LotStates ReelSupply

section

variable {s u : State} {n : Site} {k l : Nat}

/-- What acts where its condition holds. -/
theorem Ledger.ite_of (h : Ledger k l s) {c : Prop} [Decidable c] (hu : c → Ledger k l u) :
    Ledger k l (if c then u else s) := by
  split
  · next hc => exact hu hc
  · exact h

/-! ## Requests (01, 05) -/

/-- A bind claim at a site without a key that does not wait: the front key is bound, or the site waits, or the
reservation lent is used by a BLANK record or released (R68 to R70, R86, R87). -/
theorem Ledger.bindClaim (h : Ledger 0 0 s) (hn : s.pool.waiting[n] = false) (hb : s.sites[n].binding = none)
    (t : Transaction) : Ledger 0 0 (s.bindClaim n t) := by
  unfold State.bindClaim
  split
  · exact h
  · next hroom =>
    have hlend : s.canLend = true := by simpa using hroom
    have hraised : Ledger 0 0 (s.raiseExc n .keyless) := h.raiseExc .keyless
    split
    · next e rest hdeque =>
      have htaken : Ledger 1 0 { s with pool := { s.pool with deque := rest } } := h.takeKey (by rw [hdeque]; rfl)
      exact (((htaken.lend hlend).bindKey hb hn e _).forward _ _).finish
    · split
      · exact ((((h.lend hlend).setWaiting hn hb).setTimers _).setLane _).finish
      · split
        · exact ((hraised.lend hlend).blank.forward _ _).finish
        · exact ((hraised.lend hlend).releaseRes.answer .refused none).finish

theorem Ledger.stageWrite (h : Ledger 0 0 s) (hn : s.pool.waiting[n] = false)
    (hb : s.sites[n].state = .ready → s.sites[n].binding = none) (t : Transaction) :
    Ledger 0 0 (s.stageWrite n t) := by
  unfold State.stageWrite
  split
  · next hready =>
    unfold State.bindTrigger
    split
    · exact h
    · split
      · exact h
      · exact h.bindClaim hn (hb hready) t
  · split
    · exact h
    · next b hbound => exact h.setSite (by rw [hbound]; rfl)
  all_goals exact h

theorem Ledger.armWrite (h : Ledger k l s) (t : Transaction) : Ledger k l (s.armWrite n t) := by
  unfold State.armWrite
  split
  · exact h.setSite rfl
  · exact h

/-- A request by its role (R9 to R11): a STAGE write alone can move a key. -/
theorem Ledger.byRole (h : Ledger 0 0 s) (hstage : ∀ t, Ledger 0 0 (s.stageWrite n t)) (t : Transaction)
    (data : Word) : Ledger 0 0 (s.byRole n t data) := by
  unfold State.byRole
  split
  · exact h
  · exact h
  iterate 3 split <;> exact h
  · split
    · exact h
    · exact hstage t
  · split
    · exact h
    · split
      · exact h.armWrite t
      · exact h
  · exact h

/-! ## Outcomes (R83 to R99) -/

theorem Ledger.identOutcome (h : Ledger k l s) (offset : Nat) (o : DieOutcome) :
    Ledger k l (s.identOutcome n offset o) := by
  unfold State.identOutcome
  split
  · exact h.setSite rfl
  · exact h

theorem Ledger.stageOutcome (h : Ledger k l s) (offset : Nat) (o : DieOutcome) :
    Ledger k l (s.stageOutcome n offset o) := by
  unfold State.stageOutcome
  split
  · exact h
  · next b hb => exact h.ite_of fun _ => h.setSite (by rw [hb]; rfl)

theorem Ledger.backToStaging (h : Ledger k l s) : Ledger k l (s.backToStaging n) := h.setSite rfl

theorem Ledger.armOutcome (h : Ledger k l s) (o : DieOutcome) : Ledger k l (s.armOutcome n o) := by
  by_cases harmed : s.sites[n].state = .armed
  · have hcounted : Ledger k l (s.setSite n { s.sites[n] with attempts := s.sites[n].attempts + 1 }) :=
      h.setSite rfl
    unfold State.armOutcome
    rw [harmed]
    cases o with
    | nak => exact h.backToStaging
    | ok data => exact hcounted
    | timeout => exact hcounted
  · rw [armOutcome_of_ne_armed harmed]
    exact h

theorem Ledger.statusOutcome (h : Ledger 0 0 s) (o : DieOutcome) : Ledger 0 0 (s.statusOutcome n o) := by
  unfold State.statusOutcome
  split
  · have hcleared : Ledger 0 0 (s.setSite n { s.sites[n] with suspect := false }) := h.setSite rfl
    split
    · exact h.setSite rfl
    · refine h.ite_of fun _ => ?_
      unfold State.statusFail
      split
      · exact h.backToStaging
      · exact (hcleared.spoil .burn .fault).finish
  · exact h

theorem Ledger.checkOutcome (h : Ledger 0 0 s) (offset : Nat) (o : DieOutcome) :
    Ledger 0 0 (s.checkOutcome n offset o) := by
  unfold State.checkOutcome
  split
  · have hcaptured : ∀ c, Ledger 0 0 (s.setSite n { s.sites[n] with capture := c }) := fun _ => h.setSite rfl
    unfold State.compareCheck
    split
    · split
      · exact (hcaptured _).commit.finish
      · exact ((hcaptured _).spoil .mismatch .fault).finish
    · exact hcaptured _
  · exact h

theorem Ledger.outcome (h : Ledger 0 0 s) (t : Transaction) (o : DieOutcome) : Ledger 0 0 (s.outcome n t o) := by
  refine h.ite_of fun _ => ?_
  unfold State.outcomeByRole
  split
  · exact h.identOutcome _ o
  · exact h.stageOutcome _ o
  · exact h.ite_of fun _ => h.armOutcome o
  · exact h.statusOutcome o
  · exact h.checkOutcome _ o
  all_goals exact h

theorem Ledger.endTransaction (h : Ledger 0 0 s) (t : Transaction) (st : Status) (data : Word) :
    Ledger 0 0 (s.endTransaction n t st data) :=
  h.ite_of fun _ => h.outcome t _

/-! ## Contact and expiries (R104, R105, R111 to R124) -/

theorem Ledger.establish (h : Ledger k l s) (hb : s.sites[n].binding = none) : Ledger k l (s.establish n) :=
  Ledger.setSite (s := s.setTimers n _) h (by rw [State.setTimers_sites, hb]; rfl)

theorem Ledger.laneLoss (h : Ledger k l s) : Ledger k l (s.laneLoss n) := by
  unfold State.laneLoss
  split <;> exact h

theorem Ledger.vacate (h : Ledger k l s) : Ledger k l (s.vacate n) := h.setSite rfl

theorem Ledger.siteLoss (h : Ledger 0 0 s) : Ledger 0 0 (s.siteLoss n) := by
  unfold State.siteLoss
  split
  iterate 4 exact h.vacate
  · split
    · next hn =>
      have hleft : Ledger 0 0 ((s.setWaiting n false).stopKeyWait n).releaseRes := (h.unsetWaiting hn).releaseRes
      exact hleft.vacate.finish
    · exact h.vacate
  · exact (h.endStaging .lift .vacant .vacant).finish
  · exact (h.spoil .lift .vacant).finish
  · exact (h.spoil .lift .vacant).finish

/-- The reservation of a site that waits no longer is used by a BLANK record or released (R118). -/
theorem Ledger.keyWaitExpired (h : Ledger 0 0 s) : Ledger 0 0 (s.keyWaitExpired n) := by
  unfold State.keyWaitExpired
  split
  · next hn =>
    have hleft : Ledger 0 1 (((s.stopKeyWait n).setWaiting n false).raiseExc n .keyless) :=
      (h.stopKeyWait.unsetWaiting hn).raiseExc .keyless
    split
    · exact (hleft.blank.forward _ _).finish
    · exact ((hleft.releaseRes.answer .refused none).setLane Lane.idle).finish
  · exact h

theorem Ledger.dwellExpired (h : Ledger 0 0 s) : Ledger 0 0 (s.dwellExpired n) :=
  (Ledger.endStaging (s := s.stopBurnTimers n) h .dwell .fault .ready).finish

theorem Ledger.watchdogExpired (h : Ledger 0 0 s) : Ledger 0 0 (s.watchdogExpired n) :=
  (Ledger.spoil (s := s.stopBurnTimers n) h .stall .fault).finish

theorem Ledger.responseExpired (h : Ledger 0 0 s) : Ledger 0 0 (s.responseExpired n) := by
  have hraised : Ledger 0 0 ((s.answer n .timeout).raiseExc n .timeout) := h
  unfold State.responseExpired
  split
  · exact hraised.ite_of fun _ => hraised.outcome _ .timeout
  · exact hraised

/-- A state inside a tick. That keys are in contact alone is what establishment needs, which replaces a site context. -/
structure LedgerInTick (s : State) : Prop where
  ledger : Ledger 0 0 s
  contact : KeysInContact s

theorem LedgerInTick.ite_of (h : LedgerInTick s) {c : Prop} [Decidable c] (hu : c → Ledger 0 0 u)
    (hcontact : c → KeysInContact u) : LedgerInTick (if c then u else s) := by
  split
  · next hc => exact ⟨hu hc, hcontact hc⟩
  · exact h

theorem LedgerInTick.expireAt (h : LedgerInTick s) (n : Site) : LedgerInTick (s.expireAt n) := by
  unfold State.expireAt
  extract_lets s1 s2 s3 s4
  have h1 : LedgerInTick s1 := h.ite_of
    (fun hreached => h.ledger.establish (h.contact.binding_none (ne_established_of_reached hreached)))
    fun _ => h.contact.establish
  have h2 : LedgerInTick s2 := h1.ite_of (fun _ => h1.ledger.keyWaitExpired) fun _ => h1.contact.keyWaitExpired
  have h3 : LedgerInTick s3 := h2.ite_of (fun _ => h2.ledger.dwellExpired) fun _ => h2.contact.dwellExpired
  have h4 : LedgerInTick s4 := h3.ite_of (fun _ => h3.ledger.watchdogExpired) fun _ => h3.contact.watchdogExpired
  clear_value s4
  split
  · split
    · exact ⟨h4.ledger.responseExpired, h4.contact.responseExpired⟩
    · exact ⟨h4.ledger, h4.contact.quietExpired⟩
    · exact h4
    · exact h4
  · exact h4

theorem LedgerInTick.countTick (h : LedgerInTick s) : LedgerInTick s.countTick := ⟨h.ledger, h.contact.countTick⟩

theorem LedgerInTick.expireAll (h : LedgerInTick s) (sites : List Site) :
    LedgerInTick (sites.foldl State.expireAt s) := by
  induction sites generalizing s with
  | nil => exact h
  | cons n sites ih => exact ih (h.expireAt n)

/-! ## The claim window (10): no word but COMMAND touches a key or a reservation -/

theorem Ledger.cmdLoad (h : Ledger k l s)
    (hport : s.lot.state = .unloaded ∨ s.lot.state = .closed → s.supply.port ≠ .fetch) :
    Ledger k l (s.cmdLoad n) := by
  unfold State.cmdLoad
  split
  · next hlot =>
    split
    · exact (h.enterLoading (hport (.inl hlot))).answer .ok none
    · exact h
  · next hlot =>
    split
    · exact (h.enterLoading (hport (.inr hlot))).answer .ok none
    · exact h
  all_goals exact h

theorem Ledger.cmdClose (h : Ledger 0 0 s) : Ledger 0 0 (s.cmdClose n) := by
  unfold State.cmdClose
  split
  · have hleft : Ledger 0 0 s.leaveOpen := h.leaveOpen
    generalize s.leaveOpen = u at hleft ⊢
    exact Ledger.finish (s := State.answer { u with lot := _ } n .ok) hleft
  · exact h

theorem Ledger.withSiteArg (h : Ledger k l s) (arg : Byte) {f : Site → State} (hf : ∀ m, Ledger k l (f m)) :
    Ledger k l (s.withSiteArg n arg f) := by
  unfold State.withSiteArg
  split
  · split
    · exact hf _
    · exact h
  · exact h

theorem Ledger.releaseSite (h : Ledger 0 0 s) (m : Site) : Ledger 0 0 (s.releaseSite n m) := by
  have hspoiled : Ledger 0 0 (s.spoil m .release .finished) := h.spoil .release .finished
  unfold State.releaseSite
  split
  · exact h
  · exact h
  · split
    · next hm => exact ((h.dropHeld hm .refused).answer .ok none).finish
    · exact h
  · exact ((h.endStaging .release .finished .ready).answer .ok none).finish
  · exact h.setSite rfl
  · exact h.setSite rfl
  · exact (hspoiled.answer .ok none).finish
  · exact (hspoiled.answer .ok none).finish

theorem Ledger.cmdMask (h : Ledger k l s) (arg : Byte) (on : Bool) : Ledger k l (s.cmdMask n arg on) := by
  unfold State.cmdMask
  split
  · split <;> exact h
  · exact h

theorem Ledger.cmdClearChecked (h : Ledger k l s) (arg : Byte) : Ledger k l (s.cmdClearChecked n arg) :=
  h.withSiteArg arg fun m => by split <;> exact h

theorem Ledger.leaveService (h : Ledger k l s) (src : Source) : Ledger k l (s.leaveService src) := by
  unfold State.leaveService
  dsimp only
  split <;> exact h

theorem Ledger.takeAlert (h : Ledger k l s) : Ledger k l (s.takeAlert n) := by
  unfold State.takeAlert
  split
  · exact h
  · next src _ =>
    dsimp only
    split
    · refine Ledger.answer (Ledger.leaveService ?_ src) .ok _
      exact h
    · exact h

theorem Ledger.endAlert (h : Ledger k l s) : Ledger k l (s.endAlert n) := by
  unfold State.endAlert
  split
  · exact h
  · exact h.leaveService _

theorem Ledger.endAlertOf (h : Ledger k l s) (src : Source) : Ledger k l (s.endAlertOf n src) := by
  unfold State.endAlertOf
  split
  · exact h.leaveService src
  · exact h

theorem Ledger.selectView (h : Ledger k l s) (page : BitVec 4) (index : Byte) :
    Ledger k l (s.selectView n page index) := by
  unfold State.selectView
  split
  · split <;> exact h
  · exact h

theorem Ledger.latchTallies (h : Ledger k l s) : Ledger k l (s.latchTallies n) := by
  unfold State.latchTallies
  split <;> exact h

theorem Ledger.readTally (h : Ledger k l s) (t : Tally) : Ledger k l (s.readTally n t) := by
  unfold State.readTally
  dsimp only
  split
  · exact h
  · split <;> exact h

/-- A WRITE to the COMMAND word, with what a LOAD needs of the port. -/
theorem Ledger.commandWrite (h : Ledger 0 0 s) (hload : Ledger 0 0 (s.cmdLoad n)) (data : Word) :
    Ledger 0 0 (s.commandWrite n data) := by
  unfold State.commandWrite
  dsimp only
  split
  · exact hload
  · exact h.cmdClose
  · exact h.withSiteArg _ h.releaseSite
  · exact h.withSiteArg _ fun _ => h
  · exact h.cmdMask _ _
  · exact h.cmdClearChecked _
  · exact h.withSiteArg _ fun _ => h
  · exact h

theorem Ledger.claimRead (h : Ledger k l s) (word : Fin 16) : Ledger k l (s.claimRead n word) := by
  unfold State.claimRead
  split
  case h_4 => exact h.takeAlert
  case h_11 | h_12 | h_13 | h_14 | h_15 => exact h.readTally _
  all_goals exact h

theorem Ledger.claimWrite (h : Ledger 0 0 s) (hload : Ledger 0 0 (s.cmdLoad n)) (word : Fin 16) (data : Word) :
    Ledger 0 0 (s.claimWrite n word data) := by
  unfold State.claimWrite
  split
  · exact h.commandWrite hload data
  · unfold State.alertEndWrite
    split
    · exact h.endAlertOf _
    · exact h.endAlert
  · exact h
  · exact h
  · exact h.selectView _ _
  · exact h.latchTallies
  · exact h

theorem Ledger.onIdleLane (h : Ledger k l s) (hu : Ledger k l u) : Ledger k l (s.onIdleLane n u) := by
  unfold State.onIdleLane
  split
  · exact hu
  · exact h

/-- A request at a lane (R4, R17), with what a LOAD needs of the port and a STAGE write of the site at an IDLE lane. -/
theorem Ledger.request (h : Ledger 0 0 s) (hload : Ledger 0 0 (s.cmdLoad n))
    (hstage : s.lanes[n].state = .idle → ∀ t, Ledger 0 0 (s.stageWrite n t)) (kind : Kind) (a : Address)
    (data : Word) : Ledger 0 0 (s.request n kind a data) := by
  unfold State.request
  split
  · next hidle =>
    have hrole : ∀ t, Ledger 0 0 (s.byRole n t data) := fun t => h.byRole (hstage hidle) t data
    unfold State.classify
    dsimp only
    split
    · exact h
    · split
      · split
        · exact h.claimRead _
        · exact h.claimWrite hload _ data
      · split
        · unfold State.byLot
          split
          · exact h
          · exact h
          all_goals exact hrole _
        · exact h
  · exact h

/-! ## The reel's rows (03) -/

theorem ceiling_lt_of_parseImage {bytes : Vector Byte 128} {im : LotImage} (h : parseImage bytes = some im) :
    im.ceiling < 2 ^ 24 := by
  obtain ⟨-, -, ⟨hfields, -⟩, -⟩ := (parseImage_iff bytes im).1 h
  obtain ⟨-, -, -, -, -, -, -, -, -, -, -, -, -, -, hceiling, -⟩ := hfields
  omega

theorem Ledger.imageArrived (h : Ledger 0 0 s) (hport : s.supply.port = .image) (bytes : Vector Byte 128)
    (tagPasses : Bool) : Ledger 0 0 (s.imageArrived bytes tagPasses) := by
  have hfree : Ledger 0 0 s.freePort := h.freePort (by rw [hport]; decide)
  unfold State.imageArrived
  split
  · split
    · next im him => exact (ledger_lotOpen _ (ceiling_lt_of_parseImage him)).finish
    · exact hfree
  · exact hfree

/-- The draw of the FETCH that was answered goes on in the unwrap unit (R53). -/
theorem Ledger.recordArrived (h : Ledger 0 0 s) (hdraw : s.supply.draw.isSome = true) (bytes : Vector Byte 62) :
    Ledger 0 0 (s.recordArrived bytes) := by
  have hdraws : (counts s).drawn = 1 := draws_of_isSome hdraw
  have hcounts : counts s = { counts s with drawn := 1 } := by rw [← hdraws]
  have hbalance := h.counts
  rw [hcounts] at hbalance
  refine Ledger.finish (s := { s.freePort with supply := _ }) ⟨hbalance, fun _ => .inr rfl, h.keyless⟩

theorem Ledger.reelEnded (h : Ledger 0 0 s) : Ledger 0 0 s.reelEnded :=
  Ledger.finish (s := { s.freePort.endDraw with supply := _ }) h.freePort_endDraw

/-- Records leave the log with a page that is confirmed (R60). -/
theorem Ledger.confirmPage (h : Ledger k l s) (hport : s.supply.port = .append) : Ledger k l s.confirmPage := by
  have hfree : Ledger k l s.freePort := h.freePort (by rw [hport]; decide)
  have hroom : (s.log.records.drop s.pageSize).length + s.log.reservations ≤ 16 :=
    le_trans (Nat.add_le_add_right (List.drop_sublist _ _).length_le _) h.counts.room
  exact ⟨h.counts.setRecords hroom, hfree.draw, h.keyless⟩

theorem Ledger.pageStored (h : Ledger 0 0 s) (hport : s.supply.port = .append) : Ledger 0 0 s.pageStored := by
  have hconfirmed : Ledger 0 0 s.confirmPage := h.confirmPage hport
  unfold State.pageStored
  split
  · exact Ledger.finish (s := s.confirmPage.closeLot) hconfirmed
  · exact hconfirmed.finish

/-- A fatal supply failure of an active lot (R57, R61 to R63). -/
theorem Ledger.abandon (h : Ledger 0 0 s) (hactive : s.lot.state = .opened ∨ s.lot.state = .draining)
    (c : HaltCause) : Ledger 0 0 (s.freePort.halt c).finish := by
  rw [freePort_halt hactive]
  exact (h.halt c).finish

theorem Ledger.pageFailed (h : Ledger 0 0 s) (hactive : s.lot.state = .opened ∨ s.lot.state = .draining) :
    Ledger 0 0 s.pageFailed := by
  unfold State.pageFailed
  split
  · exact h
  · exact h.abandon hactive .appendFail

theorem Ledger.rejectKey (h : Ledger 0 0 s) (hdraw : s.supply.draw.isSome = true) (serial : Serial)
    (reason : RejectReason) : Ledger 0 0 (s.rejectKey serial reason) :=
  (h.drawEnded hdraw).useRes (.reject serial reason)

theorem Ledger.acceptKey (h : Ledger 0 0 s) (hdraw : s.supply.draw.isSome = true) (e : KeyEntry) :
    Ledger 0 0 (s.acceptKey e) := by
  rw [acceptKey_eq (Option.isSome_iff_ne_none.1 hdraw)]
  have haccepted : Ledger 1 1 ((LotAccounting.drawEnded s).raiseTally .fetched) :=
    ⟨h.counts.accept (draws_of_isSome hdraw), (fun hnone => nomatch hnone), h.keyless⟩
  refine Ledger.deliver ?_ e false
  exact haccepted.releaseRes

theorem Ledger.reelArrival (h : Ledger k l s) (hport : s.lot.state = .unloaded → s.supply.port ≠ .fetch) :
    Ledger k l s.reelArrival := by
  unfold State.reelArrival
  split
  · next hlot => exact h.enterLoading (hport hlot)
  all_goals exact h

theorem Ledger.reelRemoval (h : Ledger 0 0 s) (hport : s.lot.state = .loading → s.supply.port ≠ .fetch) :
    Ledger 0 0 s.reelRemoval := by
  unfold State.reelRemoval
  split
  · exact h
  · next hlot => exact h.freePort (hport hlot)
  · exact (h.halt .reelLost).finish
  · exact (h.halt .reelLost).finish
  · exact h
  · exact h

/-- Reset leaves no key, no reservation and no record (R22). -/
theorem ledger_resetBy (s : State) (c : ResetCause) : Ledger 0 0 (s.resetBy c) := by
  have hcounts : counts (s.resetBy c) = ⟨0, 0, 0, 0, 0, 0, 0, 0, 0, 0⟩ := rfl
  refine ⟨?_, (fun hnone => nomatch hnone), fun m hm => ?_⟩
  · rw [hcounts]
    exact balance_of_none_held (by decide) (by decide)
  · have hnone : (s.resetBy c).pool.waiting[m] = false := perSite_replicate false m
    rw [hnone] at hm
    cases hm

end

end Sys2Proof.Machine.LotAccounting
end

section
/-! Every row of a coherent state keeps the ledger, and resets and lot open leave no key (R52, R66, R142, R149,
R186). -/

namespace Sys2Proof.Machine.LotAccounting

open LotStates ReelSupply

section

variable {s u v : State} {n : Site}

/-! ## Every row, every step -/

/-- What the rows need of a coherent state: the ledger with nothing on its way, keys only in contact, no wait at an
IDLE lane and no key in READY, a draw wherever a FETCH or the unwrap unit shows one, and a FETCH or an
APPEND in OPEN and DRAINING alone. -/
structure LedgerReady (s : State) : Prop where
  ledger : Ledger 0 0 s
  contact : KeysInContact s
  idle : ∀ n : Site, s.lanes[n].state = .idle → s.pool.waiting[n] = false
  ready : ∀ n : Site, s.sites[n].state = .ready → s.sites[n].binding = none
  fetch : s.supply.port = .fetch → s.supply.draw.isSome = true
  unwrap : s.supply.unwrap.isSome = true → s.supply.draw.isSome = true
  active : s.supply.port = .fetch ∨ s.supply.port = .append → s.lot.state = .opened ∨ s.lot.state = .draining

theorem ledgerReady_of_coherent (h : s.Coherent) : LedgerReady s where
  ledger := ledger_of_coherent h
  contact := keysInContact_of_coherent h
  idle m hidle := by
    obtain ⟨hheld, -⟩ := h.waits m
    rw [hidle] at hheld
    exact Bool.not_eq_true _ ▸ fun hwaits => nomatch hheld.1 hwaits
  ready m hready := by
    obtain ⟨hkey, -⟩ := h.sites m
    rw [hready] at hkey
    exact Option.not_isSome_iff_eq_none.1 fun hbound => Bool.noConfusion (hkey.1 hbound)
  fetch hport := by
    obtain ⟨-, htransfer, -⟩ := h.supply
    rw [htransfer.2 hport]
    rfl
  unwrap hbusy := by
    obtain ⟨-, -, hunwrap, -⟩ := h.supply
    rw [hunwrap.2 hbusy]
    rfl
  active hport := by
    obtain ⟨-, -, -, -, hlot, -⟩ := h.lot
    rcases hlot with hopened | hdraining | hfree | himage
    · exact .inl hopened
    · exact .inr hdraining
    · rw [hfree] at hport
      exact hport.elim nofun nofun
    · rw [himage] at hport
      exact hport.elim nofun nofun

/-- Without a lot no FETCH is on the port. -/
theorem LedgerReady.port_ne_fetch (h : LedgerReady s) (hlot : NoLot s.lot.state) : s.supply.port ≠ .fetch := by
  obtain ⟨hopened, hdraining, -⟩ := hlot.ne
  exact fun hport => (h.active (.inl hport)).elim hopened hdraining

theorem LedgerReady.cmdLoad (h : LedgerReady s) (n : Site) : Ledger 0 0 (s.cmdLoad n) :=
  h.ledger.cmdLoad fun hlot => h.port_ne_fetch (hlot.imp_right .inr)

/-- A listed answer to the operation on the port (R46). -/
theorem LedgerReady.takeAnswer (h : LedgerReady s) {answer : ReelAnswer} (hport : answerPort answer = s.supply.port)
    (tagPasses : Bool) : Ledger 0 0 (s.takeAnswer tagPasses answer) := by
  have hactive : s.supply.port = .append → s.lot.state = .opened ∨ s.lot.state = .draining := fun happend =>
    h.active (.inr happend)
  cases answer with
  | image bytes => exact h.ledger.imageArrived hport.symm bytes tagPasses
  | absent => exact h.ledger.freePort (by rw [← hport]; decide)
  | record bytes => exact h.ledger.recordArrived (h.fetch hport.symm) bytes
  | endOfReel => exact h.ledger.reelEnded
  | appendOk => exact h.ledger.pageStored hport.symm
  | appendFail => exact h.ledger.pageFailed (hactive hport.symm)
  | appendFull => exact h.ledger.abandon (hactive hport.symm) .logSpace

/-- The state that a row goes to. -/
theorem ledger_of_next (hu : (.next v : Host.Outcome State Fault Refusal) = .next u) (h : Ledger 0 0 v) :
    Ledger 0 0 u := by
  cases hu
  exact h

theorem Ledger.dieResponse (h : Ledger 0 0 s) (statusByte : Byte) (data : List Byte)
    (hu : exec (.dieResponse n statusByte data) s = .next u) : Ledger 0 0 u := by
  refine ledger_of_next hu ?_
  split
  · split
    · exact h.endTransaction _ _ _
    · exact h
  all_goals exact h

theorem Ledger.contactFall (h : Ledger 0 0 s) (hu : exec (.contactFall n) s = .next u) : Ledger 0 0 u := by
  refine ledger_of_next hu ?_
  split
  · exact h
  · exact h
  · exact (Ledger.laneLoss (s := s.setTimers n _) h).siteLoss

theorem LedgerReady.reelPresentFall (h : LedgerReady s) (hu : exec .reelPresentFall s = .next u) : Ledger 0 0 u := by
  refine ledger_of_next hu ?_
  split
  · exact h.ledger
  · exact h.ledger
  · exact Ledger.reelRemoval (s := { s with supply := _ }) h.ledger fun hlot =>
      h.port_ne_fetch (.inr (.inl hlot))

theorem LedgerReady.reelDebounceEnd (h : LedgerReady s) (hu : exec .reelDebounceEnd s = .next u) : Ledger 0 0 u :=
  ledger_of_next hu (h.ledger.ite_of fun _ => Ledger.reelArrival (s := { s with supply := _ }) h.ledger fun hlot =>
    h.port_ne_fetch (.inl hlot))

theorem LedgerReady.imageAnswer (h : LedgerReady s) (answer : ImageAnswer)
    (hu : exec (.imageAnswer answer) s = .next u) : Ledger 0 0 u := by
  refine ledger_of_next hu (h.ledger.ite_of fun hport => ?_)
  split <;> exact h.takeAnswer (by exact hport.symm) _

theorem LedgerReady.fetchAnswer (h : LedgerReady s) (answer : FetchAnswer)
    (hu : exec (.fetchAnswer answer) s = .next u) : Ledger 0 0 u := by
  refine ledger_of_next hu (h.ledger.ite_of fun hport => ?_)
  split <;> exact h.takeAnswer (by exact hport.symm) _

theorem LedgerReady.unwrapCompletion (h : LedgerReady s) (r : UnwrapResult)
    (hu : exec (.unwrapCompletion r) s = .next u) : Ledger 0 0 u := by
  refine ledger_of_next hu ?_
  split
  · exact h.ledger
  · next key hbusy =>
    have hdraw : s.supply.draw.isSome = true := h.unwrap (by rw [hbusy]; rfl)
    split
    · exact (h.ledger.rejectKey hdraw _ .tag).finish
    · split
      · exact (h.ledger.rejectKey hdraw _ .order).finish
      · exact (h.ledger.acceptKey hdraw _).finish

theorem LedgerReady.reelSilent (h : LedgerReady s) (hu : exec .reelSilent s = .next u) : Ledger 0 0 u := by
  refine ledger_of_next hu ?_
  split
  · exact h.ledger
  · next hport => exact h.ledger.freePort (by rw [hport]; decide)
  · next hport => exact h.ledger.abandon (h.active (.inl hport)) .reelSilent
  · next hport => exact h.ledger.abandon (h.active (.inr hport)) .reelSilent

theorem LedgerReady.discardedReelAnswer (h : LedgerReady s) (b : ReelBytes)
    (hu : exec (.discardedReelAnswer b) s = .next u) : Ledger 0 0 u := by
  refine ledger_of_next hu (h.ledger.ite_of fun _ => ?_)
  split
  · next hanswer => exact h.takeAnswer (answerPort_of_ofBytes hanswer) _
  · exact h.ledger

/-- A start that stands to be granted is the arbiter's (R59). -/
theorem Ledger.fetchStart (h : Ledger 0 0 s) (hu : exec .fetchStart s = .next u) : Ledger 0 0 u := by
  refine ledger_of_next hu (h.ite_of fun hgrant => ?_)
  rw [← arbitrate_of_grant_fetch hgrant]
  exact h.arbitrate.finish

theorem Ledger.appendStart (h : Ledger 0 0 s) (hu : exec .appendStart s = .next u) : Ledger 0 0 u := by
  refine ledger_of_next hu (h.ite_of fun hgrant => ?_)
  rw [← arbitrate_of_grant_append hgrant]
  exact h.arbitrate.finish

theorem LedgerReady.exec_next (h : LedgerReady s) (c : Instr) (hu : exec c s = .next u) : Ledger 0 0 u := by
  have hbooks := h.ledger
  have htick : LedgerInTick ((List.finRange 8).foldl State.expireAt s.countTick) :=
    (LedgerInTick.countTick ⟨hbooks, h.contact⟩).expireAll _
  have hwindow : ∀ {n v}, (.next (s.onIdleLane n v) : Host.Outcome State Fault Refusal) = .next u →
      Ledger 0 0 v → Ledger 0 0 u := fun hv hledger => ledger_of_next hv (hbooks.onIdleLane hledger)
  have hwhere : ∀ {p : Prop} [Decidable p] {v},
      (.next (if p then v else s) : Host.Outcome State Fault Refusal) = .next u → (p → Ledger 0 0 v) →
      Ledger 0 0 u := fun hv hledger => ledger_of_next hv (hbooks.ite_of hledger)
  cases c with
  | dalRequest n kindByte address data =>
    exact ledger_of_next hu (hbooks.request (h.cmdLoad n)
      (fun hidle t => hbooks.stageWrite (h.idle n hidle) (h.ready n) t) _ _ _)
  | dieResponse n statusByte data => exact hbooks.dieResponse statusByte data hu
  | responseTimerExpiry n => exact hwhere hu fun _ => hbooks.responseExpired
  | quietTimerExpiry n => exact hwhere hu fun _ => hbooks
  | tick => exact ledger_of_next hu htick.ledger
  | contactRise n => exact hwhere hu fun _ => hbooks
  | contactDebounceComplete n =>
    refine hwhere hu fun hlast => hbooks.establish (h.contact.binding_none ?_)
    exact fun hestablished => ne_established_of_reached hlast (by rw [hestablished]; rfl)
  | contactFall n => exact hbooks.contactFall hu
  | keyWaitExpiry n => exact hwhere hu fun _ => hbooks.keyWaitExpired
  | dwellExpiry n => exact hwhere hu fun _ => hbooks.dwellExpired
  | programWatchdogExpiry n => exact hwhere hu fun _ => hbooks.watchdogExpired
  | reelPresentRise => exact hwhere hu fun _ => hbooks
  | reelDebounceEnd => exact h.reelDebounceEnd hu
  | reelPresentFall => exact h.reelPresentFall hu
  | imageAnswer answer => exact h.imageAnswer answer hu
  | fetchStart => exact hbooks.fetchStart hu
  | fetchAnswer answer => exact h.fetchAnswer answer hu
  | unwrapCompletion r => exact h.unwrapCompletion r hu
  | appendStart => exact hbooks.appendStart hu
  | appendOk => exact hwhere hu fun hport => h.takeAnswer (answer := .appendOk) hport.symm false
  | appendFail => exact hwhere hu fun hport => h.takeAnswer (answer := .appendFail) hport.symm false
  | appendFull => exact hwhere hu fun hport => h.takeAnswer (answer := .appendFull) hport.symm false
  | reelSilent => exact h.reelSilent hu
  | discardedReelAnswer b => exact h.discardedReelAnswer b hu
  | unusedSpoil => exact hwhere hu fun hdue => (hbooks.spoilUnused hdue).finish
  | closeRecord => exact hwhere hu fun hdue => (hbooks.queueClose hdue).finish
  | load n => exact hwindow hu (h.cmdLoad n)
  | close n => exact hwindow hu hbooks.cmdClose
  | release n arg => exact hwindow hu (hbooks.withSiteArg arg hbooks.releaseSite)
  | lowest n arg => exact hwindow hu (hbooks.withSiteArg arg fun _ => hbooks)
  | mask n arg on => exact hwindow hu (hbooks.cmdMask arg on)
  | clearChecked n arg => exact hwindow hu (hbooks.cmdClearChecked arg)
  | clearUnchecked n arg => exact hwindow hu (hbooks.withSiteArg arg fun _ => hbooks)
  | alertTake n => exact hwindow hu hbooks.takeAlert
  | alertEndNonSpecific n => exact hwindow hu hbooks.endAlert
  | alertEndSpecific n source => exact hwindow hu (hbooks.endAlertOf _)
  | alertMask n data => exact hwindow hu hbooks
  | exceptionMask n data => exact hwindow hu hbooks
  | viewSelect n page index => exact hwindow hu (hbooks.selectView page index)
  | viewData n => exact hwindow hu hbooks
  | tallyLatch n => exact hwindow hu hbooks.latchTallies
  | tally n which => exact hwindow hu (hbooks.readTally which)
  | claimWordWrite n word data => exact hwindow hu (hbooks.claimWrite (h.cmdLoad n) word data)
  | powerOn => exact ledger_of_next hu (ledger_resetBy s .power)
  | resetLine => exact ledger_of_next hu (ledger_resetBy s .line)

theorem LedgerReady.step_next (h : LedgerReady s) (hu : step s = .next u) : Ledger 0 0 u := by
  unfold step at hu
  split at hu
  · exact ledger_of_next hu h.ledger
  · next c rest _ =>
    exact LedgerReady.exec_next (s := { s with pending := rest })
      ⟨h.ledger, h.contact, h.idle, h.ready, h.fetch, h.unwrap, h.active⟩ c hu

/-! ## Resets and lot open (R22, R33, R184) -/

/-- No key is held, and none has been fetched, committed or spoiled. -/
def NoKeys (s : State) : Prop :=
  s.tallies.fetched = 0 ∧ s.pool.deque = [] ∧ s.bindings = 0 ∧ s.tallies.committed = 0 ∧ s.tallies.spoiled = 0

theorem noKeys_resetBy (s : State) (c : ResetCause) : NoKeys (s.resetBy c) := ⟨rfl, rfl, rfl, rfl, rfl⟩

/-- Where no key is held the end of an event finds none to spoil (R37). -/
theorem NoKeys.finish (h : NoKeys s) : NoKeys s.finish :=
  finish_induct (P := NoKeys) (fun _ h _ _ => h) (fun _ h _ _ => h)
    (fun u h hdue => absurd h.2.1 ((unusedDue_iff u).1 hdue).2.1) (fun _ h _ _ => h) (fun _ h => h) s h

theorem noKeys_lotOpen (s : State) (im : LotImage) : NoKeys (s.lotOpen im) :=
  ⟨rfl, rfl, bindings_lotOpen s im, rfl, rfl⟩

end

/-- Settles O57: a coherent state is ready for every row's ledger, and the resets and lot open leave no key. -/
theorem stepKeepsTheCounts : Obligations.StepKeepsTheCounts := by
  refine ⟨fun s u hcoherent hstep => ((ledgerReady_of_coherent hcoherent).step_next hstep).invariants,
    fun c s t bytes hc ht => ?_⟩
  show NoKeys t
  rcases hc with rfl | rfl | ⟨rfl, hport, hvalid⟩
  · cases ht
    exact noKeys_resetBy s .power
  · cases ht
    exact noKeys_resetBy s .line
  · obtain ⟨im, him⟩ := Option.ne_none_iff_exists'.1 hvalid
    rw [exec_imageAnswer_image hport, imageArrived_valid him] at ht
    cases ht
    exact (noKeys_lotOpen s.freePort im).finish

end Sys2Proof.Machine.LotAccounting
end

section
/-! A step and the queue (00_scope 3): one equation for each shape of the queue. -/

namespace Sys2Proof.Machine.CommandQueue

theorem step_of_pending_nil {s : State} (h : s.pending = []) : step s = .next s := by
  rw [step, h]

theorem step_of_pending_cons {s : State} {c : Instr} {rest : List Instr} (h : s.pending = c :: rest) :
    step s = exec c { s with pending := rest } := by
  rw [step, h]

/-- Settles O1: the two shapes of the queue, a command at its front and none. -/
theorem stepRunsFrontCommand : Obligations.StepRunsFrontCommand :=
  ⟨fun _ _ _ hfront => step_of_pending_cons hfront, fun _ hempty => step_of_pending_nil hempty⟩

end Sys2Proof.Machine.CommandQueue
end

section
/-! The lot leaves OPEN, and a fatal supply failure, whole (R16, R34, R41, R42, R57, R117). -/

namespace Sys2Proof.Machine.LeavingOpen

open LotStates ReelSupply

/-! ## Leaving OPEN (R16, R34, R117) -/

/-- The held write of every waiting site among `sites` answered REFUSED, in their order. -/
def refusedAt (sites : List Site) (s : State) : State :=
  { s with
    pool := { s.pool with waiting := Vector.ofFn fun n : Site => s.pool.waiting[n] && !decide (n ∈ sites) }
    timers := Vector.ofFn fun n : Site =>
      if n ∈ sites ∧ s.pool.waiting[n] = true then { s.timers[n] with keyWait := .stopped } else s.timers[n]
    lanes := Vector.ofFn fun n : Site => if n ∈ sites ∧ s.pool.waiting[n] = true then Lane.idle else s.lanes[n]
    log := { s.log with reservations := s.log.reservations - sites.countP (fun n : Site => s.pool.waiting[n]) }
    sent := s.sent ++ (sites.filter (fun n : Site => s.pool.waiting[n])).map (fun n => .upstream n ⟨.refused, none⟩) }

theorem refusedAt_nil (s : State) : refusedAt [] s = s := by
  have hwaiting : (Vector.ofFn fun n : Site => s.pool.waiting[n] && !decide (n ∈ ([] : List Site))) = s.pool.waiting :=
    perSite_ext fun n => by rw [perSite_ofFn]; simp
  have htimers : (Vector.ofFn fun n : Site => if n ∈ ([] : List Site) ∧ s.pool.waiting[n] = true
      then { s.timers[n] with keyWait := .stopped } else s.timers[n]) = s.timers :=
    perSite_ext fun n => by rw [perSite_ofFn]; simp
  have hlanes : (Vector.ofFn fun n : Site => if n ∈ ([] : List Site) ∧ s.pool.waiting[n] = true
      then Lane.idle else s.lanes[n]) = s.lanes :=
    perSite_ext fun n => by rw [perSite_ofFn]; simp
  rw [refusedAt, hwaiting, htimers, hlanes, List.filter_nil, List.map_nil, List.append_nil]
  rfl

/-- A site that does not wait is passed over. -/
theorem refusedAt_cons_of_not_waiting {s : State} {n : Site} (h : s.pool.waiting[n] = false) (sites : List Site) :
    refusedAt (n :: sites) s = refusedAt sites s := by
  have hmem : ∀ m : Site, s.pool.waiting[m] = true → (m ∈ n :: sites ↔ m ∈ sites) := fun m hm => by
    rw [List.mem_cons]
    exact or_iff_right fun e => by rw [e, h] at hm; cases hm
  have hand : ∀ m : Site, m ∈ n :: sites ∧ s.pool.waiting[m] = true ↔ m ∈ sites ∧ s.pool.waiting[m] = true := fun m =>
    ⟨fun hm => ⟨(hmem m hm.2).1 hm.1, hm.2⟩, fun hm => ⟨(hmem m hm.2).2 hm.1, hm.2⟩⟩
  have hwaiting : ∀ m : Site, (s.pool.waiting[m] && !decide (m ∈ n :: sites)) =
      (s.pool.waiting[m] && !decide (m ∈ sites)) := fun m => by
    cases hm : s.pool.waiting[m] with
    | false => rfl
    | true => rw [decide_eq_decide.2 (hmem m hm)]
  have hskip : ¬s.pool.waiting[n] = true := by rw [h]; exact Bool.false_ne_true
  have hcount : (n :: sites).countP (fun m : Site => s.pool.waiting[m]) =
      sites.countP (fun m : Site => s.pool.waiting[m]) := List.countP_cons_of_neg hskip
  have hfilter : (n :: sites).filter (fun m : Site => s.pool.waiting[m]) =
      sites.filter (fun m : Site => s.pool.waiting[m]) := List.filter_cons_of_neg hskip
  rw [refusedAt, refusedAt, hcount, hfilter]
  simp only [hwaiting, hand]

/-- The held write of a waiting site ends before those of the sites after it. -/
theorem refusedAt_cons_of_waiting {s : State} {n : Site} (h : s.pool.waiting[n] = true) {sites : List Site}
    (hn : n ∉ sites) : refusedAt (n :: sites) s = refusedAt sites (s.dropHeld n .refused) := by
  have hne : ∀ {m : Site}, m ∈ sites → m ≠ n := fun hm e => hn (e ▸ hm)
  have hkept : ∀ m ∈ sites, (s.pool.waiting.set n false)[m] = s.pool.waiting[m] := fun m hm =>
    perSite_set_ne _ _ (hne hm)
  have hwaiting : (s.dropHeld n .refused).pool.waiting = s.pool.waiting.set n false := rfl
  have hwaitingEq : ∀ m : Site, (s.pool.waiting[m] && !decide (m ∈ n :: sites)) =
      ((s.pool.waiting.set n false)[m] && !decide (m ∈ sites)) := fun m => by
    rw [perSite_set]
    by_cases hm : m = n <;> simp [hm]
  have htimers : ∀ m : Site, (if m ∈ n :: sites ∧ s.pool.waiting[m] = true
        then { s.timers[m] with keyWait := .stopped } else s.timers[m]) =
      if m ∈ sites ∧ (s.pool.waiting.set n false)[m] = true
        then { (s.dropHeld n .refused).timers[m] with keyWait := .stopped } else (s.dropHeld n .refused).timers[m] := by
    intro m
    have hdropped : (s.dropHeld n .refused).timers[m] =
        if m = n then { s.timers[n] with keyWait := .stopped } else s.timers[m] := perSite_set _ _ _ _
    rw [hdropped, perSite_set]
    by_cases hm : m = n
    · subst hm
      simp [h, -Fin.getElem_fin]
    · simp [hm, -Fin.getElem_fin]
  have hlanes : ∀ m : Site, (if m ∈ n :: sites ∧ s.pool.waiting[m] = true then Lane.idle else s.lanes[m]) =
      if m ∈ sites ∧ (s.pool.waiting.set n false)[m] = true then Lane.idle
        else (s.dropHeld n .refused).lanes[m] := by
    intro m
    have hdropped : (s.dropHeld n .refused).lanes[m] = if m = n then Lane.idle else s.lanes[m] := perSite_set _ _ _ _
    rw [hdropped, perSite_set]
    by_cases hm : m = n
    · subst hm
      simp [h, -Fin.getElem_fin]
    · simp [hm, -Fin.getElem_fin]
  have hcount : sites.countP (fun m : Site => (s.pool.waiting.set n false)[m]) =
      sites.countP (fun m : Site => s.pool.waiting[m]) :=
    List.countP_congr fun m hm => by rw [hkept m hm]
  have hfilter : sites.filter (fun m : Site => (s.pool.waiting.set n false)[m]) =
      sites.filter (fun m : Site => s.pool.waiting[m]) :=
    List.filter_congr hkept
  have hfirstCount : (n :: sites).countP (fun m : Site => s.pool.waiting[m]) =
      sites.countP (fun m : Site => s.pool.waiting[m]) + 1 := List.countP_cons_of_pos h
  have hfirst : (n :: sites).filter (fun m : Site => s.pool.waiting[m]) =
      n :: sites.filter (fun m : Site => s.pool.waiting[m]) := List.filter_cons_of_pos h
  rw [refusedAt, refusedAt, hwaiting, hcount, hfilter, hfirstCount, hfirst]
  simp only [hwaitingEq, htimers, hlanes]
  have hreserved : s.log.reservations - (sites.countP (fun m : Site => s.pool.waiting[m]) + 1) =
      (s.dropHeld n .refused).log.reservations - sites.countP (fun m : Site => s.pool.waiting[m]) := by
    show _ = s.log.reservations - 1 - _
    omega
  have hsent : s.sent ++ (n :: sites.filter (fun m : Site => s.pool.waiting[m])).map
        (fun m => Sent.upstream m ⟨.refused, none⟩) =
      (s.dropHeld n .refused).sent ++ (sites.filter (fun m : Site => s.pool.waiting[m])).map
        (fun m => Sent.upstream m ⟨.refused, none⟩) :=
    (List.append_cons _ _ _)
  rw [hreserved, hsent]
  rfl

theorem foldl_dropHeld {sites : List Site} (hsites : sites.Nodup) (s : State) :
    sites.foldl (fun s n => if s.pool.waiting[n] then s.dropHeld n .refused else s) s = refusedAt sites s := by
  induction sites generalizing s with
  | nil => exact (refusedAt_nil s).symm
  | cons n sites ih =>
    obtain ⟨hn, hsites⟩ := List.nodup_cons.1 hsites
    rw [List.foldl_cons, ih hsites]
    cases h : s.pool.waiting[n] with
    | false => exact (refusedAt_cons_of_not_waiting h sites).symm
    | true => exact (refusedAt_cons_of_waiting h hn).symm

/-- The waiting sites, counted site by site. -/
theorem waiters_eq_countP (s : State) : s.waiters = (List.finRange 8).countP (fun n : Site => s.pool.waiting[n]) := by
  have hlist : s.pool.waiting.toList = (List.finRange 8).map (fun n : Site => s.pool.waiting[n]) :=
    List.ext_getElem (by simp) fun i h1 h2 => by simp
  rw [State.waiters, hlist, List.countP_map]
  rfl

/-- Leaving OPEN, whole (R16, R34, R117). -/
theorem leaveOpen_eq (s : State) :
    s.leaveOpen =
      { s with
        pool := { s.pool with waiting := Vector.replicate 8 false }
        timers := Vector.ofFn fun n : Site =>
          if s.pool.waiting[n] then { s.timers[n] with keyWait := .stopped } else s.timers[n]
        lanes := Vector.ofFn fun n : Site => if s.pool.waiting[n] then ⟨.idle, .stopped, none⟩ else s.lanes[n]
        log := { s.log with reservations := s.log.reservations - s.waiters }
        sent := s.sent ++
          ((List.finRange 8).filter (fun n : Site => s.pool.waiting[n])).map
            (fun n => .upstream n ⟨.refused, none⟩) } := by
  have hnobody : (Vector.ofFn fun n : Site => s.pool.waiting[n] && !decide (n ∈ List.finRange 8)) =
      Vector.replicate 8 false :=
    perSite_ext fun n => by rw [perSite_ofFn, perSite_replicate]; simp
  rw [State.leaveOpen, foldl_dropHeld (List.nodup_finRange 8), refusedAt, hnobody, waiters_eq_countP]
  simp only [List.mem_finRange, true_and]
  rfl

/-! ## A fatal supply failure (R41, R42, R57) -/

/-- The draw and its reservation abandoned, whole: the reservation is the draw's (R44). -/
theorem endDraw_freePort_eq {s : State} (h : s.SupplyOk) :
    s.freePort.endDraw =
      { s with
        supply := { s.supply with
          port := .free, timerRunning := false, page := none, draw := none, fetchReservation := false, unwrap := none }
        log := { s.log with reservations := s.log.reservations - s.draws } } := by
  obtain ⟨hreserved, -, hunwrap, -⟩ := h
  by_cases hdraw : s.supply.draw = none
  · have hfetch : s.supply.fetchReservation = false := by simpa [hdraw] using hreserved
    have hbusy : s.supply.unwrap = none := by simpa [hdraw] using hunwrap
    have hdraws : s.draws = 0 := by rw [State.draws, hdraw]; rfl
    have hended : s.freePort.endDraw = s.freePort := if_neg (by rw [State.freePort_supply, hdraw]; nofun)
    have hsupply : s.freePort.supply =
        { s.supply with
          port := .free, timerRunning := false, page := none, draw := none, fetchReservation := false,
          unwrap := none } := by
      simp only [State.freePort_supply, hdraw, hfetch, hbusy]
    rw [hended, hdraws, ← hsupply]
    rfl
  · have hdraws : s.draws = 1 := if_pos (Option.isSome_iff_ne_none.2 hdraw)
    rw [endDraw_eq (s := s.freePort) hdraw, hdraws]
    rfl

/-- A halt of an active lot, whole. -/
theorem halt_eq {s : State} (hactive : s.lot.state = .opened ∨ s.lot.state = .draining) (h : s.SupplyOk)
    (cause : HaltCause) :
    s.halt cause =
      { s.leaveOpen with
        lot := { s.lot with state := .halted, haltCause := cause }
        supply := { s.supply with
          port := .free, timerRunning := false, page := none, draw := none, fetchReservation := false, unwrap := none }
        log := { s.leaveOpen.log with reservations := s.leaveOpen.log.reservations - s.draws } } := by
  have hsupply : s.leaveOpen.SupplyOk := by rw [State.SupplyOk, State.leaveOpen_supply]; exact h
  have hdraws : s.leaveOpen.draws = s.draws := by rw [State.draws, State.leaveOpen_supply]; rfl
  rw [halt_of_active hactive, endDraw_freePort_eq hsupply, hdraws, State.leaveOpen_supply, State.leaveOpen_lot]

/-- Settles O39: leaving OPEN site by site, and a halt as leaving OPEN with the port and the draw abandoned. -/
theorem leavingOpenAndHalting : Obligations.LeavingOpenAndHalting :=
  ⟨leaveOpen_eq, fun _ cause hsupply => ⟨fun hactive => halt_eq hactive hsupply cause,
    fun hopened hdraining => halt_of_not_active cause hopened hdraining⟩⟩

end Sys2Proof.Machine.LeavingOpen
end


section
/-! What a claim-window word other than a command can change (R6, R159 to R183): flags, alerts, pointers and latches, and
no work of the part. -/

namespace Sys2Proof.Machine.ClaimWords

/-- The parts of the state in which the work of the part stands: the lot, the keys, the sites, the lanes, the log, the
tallies and the queue. -/
structure Work where
  lot : LotController
  supply : Supply
  pool : Pool
  sites : PerSite SiteContext
  timers : PerSite SiteTimers
  lanes : PerSite Lane
  log : CommitLog
  tallies : Tallies
  pending : List Instr

/-- The work of a state. -/
def work (s : State) : Work where
  lot := s.lot
  supply := s.supply
  pool := s.pool
  sites := s.sites
  timers := s.timers
  lanes := s.lanes
  log := s.log
  tallies := s.tallies
  pending := s.pending

/-- From `s` to `u` no work changes, and the order of service and the view pointers stay in order (R161, R176). -/
structure WindowOnly (s u : State) : Prop where
  work : work u = work s
  service : s.InServiceOk → u.InServiceOk
  pointers : s.PointersOk → u.PointersOk

variable {s u : State} {n : Site}

theorem WindowOnly.refl (s : State) : WindowOnly s s := ⟨rfl, id, id⟩

theorem WindowOnly.answer (h : WindowOnly s u) (st : Status) (d : Option Word) : WindowOnly s (u.answer n st d) :=
  ⟨h.work, h.service, h.pointers⟩

theorem windowOnly_answer (s : State) (n : Site) (st : Status) (d : Option Word) : WindowOnly s (s.answer n st d) :=
  (WindowOnly.refl s).answer st d

/-- Changes to the alert controller that leave the in-service list as it is. -/
theorem windowOnly_setAlert {a : AlertController} (h : a.inService = s.alert.inService) :
    WindowOnly s { s with alert := a } :=
  ⟨rfl, fun hs => by rw [State.InServiceOk, h]; exact hs, id⟩

/-! ## Exceptions (R129, R134, R138, R139) -/

theorem windowOnly_raiseExc (s : State) (n : Site) (k : ExcKind) : WindowOnly s (s.raiseExc n k) := by
  refine ⟨rfl, fun hs => ?_, id⟩
  have hsame : (s.raiseExc n k).alert.inService = s.alert.inService := by
    rw [State.raiseExc_alert]
    split
    · rfl
    · exact ReelSupply.event_inService _ _ _
  rw [State.InServiceOk, hsame]
  exact hs

theorem windowOnly_busy (s : State) (n : Site) : WindowOnly s (s.busy n) := by
  obtain ⟨hwork, hservice, hpointers⟩ := windowOnly_raiseExc (s.answer n .busy) n .overlap
  exact ⟨hwork, hservice, hpointers⟩

theorem windowOnly_cmdMask (s : State) (n : Site) (arg : Byte) (on : Bool) : WindowOnly s (s.cmdMask n arg on) := by
  unfold State.cmdMask
  split
  · split <;> exact ⟨rfl, id, id⟩
  · exact windowOnly_answer s n .refused none

theorem windowOnly_withSiteArg (n : Site) (arg : Byte) {f : Site → State} (hf : ∀ m, WindowOnly s (f m)) :
    WindowOnly s (s.withSiteArg n arg f) := by
  unfold State.withSiteArg
  split
  · split
    · exact hf _
    · exact windowOnly_answer s n .refused none
  · exact windowOnly_answer s n .refused none

theorem windowOnly_cmdClearChecked (s : State) (n : Site) (arg : Byte) : WindowOnly s (s.cmdClearChecked n arg) :=
  windowOnly_withSiteArg n arg fun m => by split <;> exact ⟨rfl, id, id⟩

theorem removePending_inService (a : AlertController) (m : Site) : (a.removePending m).inService = a.inService := by
  unfold AlertController.removePending
  dsimp only
  split
  · split <;> rfl
  · rfl

theorem windowOnly_cmdClearUnchecked (s : State) (n : Site) (arg : Byte) : WindowOnly s (s.cmdClearUnchecked n arg) :=
  windowOnly_withSiteArg n arg fun m =>
    have h : WindowOnly s { s with alert := s.alert.removePending m } :=
      windowOnly_setAlert (removePending_inService s.alert m)
    ⟨rfl, h.service, id⟩

/-! ## Alerts (R161 to R165) -/

theorem leaveService_inService (s : State) (src : Source) :
    (s.leaveService src).alert.inService = s.alert.inService.filter (· != src) := by
  unfold State.leaveService
  dsimp only
  split <;> rfl

/-- The others keep their order when a source leaves. -/
theorem windowOnly_leaveService (s : State) (src : Source) : WindowOnly s (s.leaveService src) := by
  refine ⟨?_, fun hs => ?_, ?_⟩
  · unfold State.leaveService
    dsimp only
    split <;> rfl
  · rw [State.InServiceOk, leaveService_inService]
    exact hs.filter _
  · unfold State.leaveService
    dsimp only
    split <;> exact id

/-- A source goes in service above every source there (R160, R161). -/
theorem inServiceOk_append {a : AlertController} {src : Source} (h : a.eligible src = true)
    (hs : a.inService.Pairwise (fun x y => y.priority < x.priority)) :
    (a.inService ++ [src]).Pairwise (fun x y => y.priority < x.priority) := by
  obtain ⟨-, -, -, habove⟩ := (AlertControl.eligible_iff a src).1 h
  exact List.pairwise_append.2 ⟨hs, List.pairwise_singleton _ _, fun x hx y hy => by
    rw [List.mem_singleton.1 hy]
    exact habove x hx⟩

theorem WindowOnly.trans {v : State} (h : WindowOnly s u) (k : WindowOnly u v) : WindowOnly s v :=
  ⟨k.work.trans h.work, k.service ∘ h.service, k.pointers ∘ h.pointers⟩

theorem windowOnly_takeAlert (s : State) (n : Site) : WindowOnly s (s.takeAlert n) := by
  unfold State.takeAlert
  split
  · exact windowOnly_answer s n .ok _
  · next src hsrc =>
    dsimp only
    have htaken : WindowOnly s { s with alert := { s.alert.setLatch src false with
        siteSets := s.alert.siteSets.set SiteSet.empty src, inService := s.alert.inService ++ [src] } } :=
      ⟨rfl, inServiceOk_append (highestEligible_some hsrc).1, id⟩
    split
    · exact (htaken.trans (windowOnly_leaveService _ src)).answer .ok _
    · exact htaken.answer .ok _

theorem windowOnly_endAlert (s : State) (n : Site) : WindowOnly s (s.endAlert n) := by
  unfold State.endAlert
  split
  · exact windowOnly_answer s n .refused none
  · exact (windowOnly_leaveService s _).answer .ok none

theorem windowOnly_endAlertOf (s : State) (n : Site) (src : Source) : WindowOnly s (s.endAlertOf n src) := by
  unfold State.endAlertOf
  split
  · exact (windowOnly_leaveService s src).answer .ok none
  · exact windowOnly_answer s n .refused none

theorem windowOnly_alertEndWrite (s : State) (n : Site) (data : Word) : WindowOnly s (s.alertEndWrite n data) := by
  unfold State.alertEndWrite
  split
  · exact windowOnly_endAlertOf s n _
  · exact windowOnly_endAlert s n

theorem windowOnly_alertMaskWrite (s : State) (n : Site) (data : Word) : WindowOnly s (s.alertMaskWrite n data) :=
  ⟨rfl, id, id⟩

theorem windowOnly_excMaskWrite (s : State) (n : Site) (data : Word) : WindowOnly s (s.excMaskWrite n data) :=
  ⟨rfl, id, id⟩

/-! ## View and tally words (R177, R178, R182, R183) -/

/-- A pointer put inside its page. -/
theorem windowOnly_setPointer {p : ViewPointer} (hp : p.index < p.page.length) :
    WindowOnly s { s with pointers := s.pointers.set n p } :=
  ⟨rfl, id, LotStates.forall_perSite_set (P := fun _ (p : ViewPointer) => p.index < p.page.length) hp⟩

theorem windowOnly_selectView (s : State) (n : Site) (page : BitVec 4) (index : Byte) :
    WindowOnly s (s.selectView n page index) := by
  unfold State.selectView
  split
  · split
    · next hindex => exact (windowOnly_setPointer (p := ⟨_, _⟩) hindex).answer .ok none
    · exact windowOnly_answer s n .refused none
  · exact windowOnly_answer s n .refused none

/-- No page is empty, so that a pointer that turns back stays inside its page (R178). -/
theorem advance_index_lt (p : ViewPointer) : p.advance.index < p.advance.page.length := by
  have hpos : 0 < p.page.length := by cases p.page <;> exact Nat.zero_lt_succ _
  unfold ViewPointer.advance
  dsimp only
  split
  · next hnext => exact hnext
  · exact hpos

theorem windowOnly_readView (s : State) (n : Site) : WindowOnly s (s.readView n) :=
  (windowOnly_setPointer (advance_index_lt _)).answer .ok _

theorem windowOnly_latchTallies (s : State) (n : Site) : WindowOnly s (s.latchTallies n) := by
  unfold State.latchTallies
  split <;> exact ⟨rfl, id, id⟩

theorem windowOnly_readTally (s : State) (n : Site) (t : Tally) : WindowOnly s (s.readTally n t) := by
  unfold State.readTally
  dsimp only
  split
  · exact windowOnly_answer s n .ok _
  · split <;> exact ⟨rfl, id, id⟩

/-! ## The sixteen words (R171) -/

theorem windowOnly_claimRead (s : State) (n : Site) (word : Fin 16) : WindowOnly s (s.claimRead n word) := by
  unfold State.claimRead
  split
  case h_4 => exact windowOnly_takeAlert s n
  case h_9 => exact windowOnly_readView s n
  case h_11 | h_12 | h_13 | h_14 | h_15 => exact windowOnly_readTally s n _
  all_goals exact windowOnly_answer s n .ok _

/-- What a WRITE to a claim word keeps, where it is kept by everything that changes no work: a command must be shown to
keep it, and LOAD, CLOSE, RELEASE and LOWEST alone change work. -/
theorem claimWrite_induct {P : State → Prop} (window : ∀ u, WindowOnly s u → P u) (load : P (s.cmdLoad n))
    (close : P (s.cmdClose n)) (release : ∀ arg, P (s.cmdRelease n arg)) (lowest : ∀ arg, P (s.cmdLowest n arg))
    (word : Fin 16) (data : Word) : P (s.claimWrite n word data) := by
  unfold State.claimWrite
  split
  · unfold State.commandWrite
    dsimp only
    split
    · exact load
    · exact close
    · exact release _
    · exact lowest _
    · exact window _ (windowOnly_cmdMask s n _ _)
    · exact window _ (windowOnly_cmdClearChecked s n _)
    · exact window _ (windowOnly_cmdClearUnchecked s n _)
    · exact window _ (windowOnly_answer s n .refused none)
  · exact window _ (windowOnly_alertEndWrite s n data)
  · exact window _ (windowOnly_alertMaskWrite s n data)
  · exact window _ (windowOnly_excMaskWrite s n data)
  · exact window _ (windowOnly_selectView s n _ _)
  · exact window _ (windowOnly_latchTallies s n)
  · exact window _ (windowOnly_answer s n .refused none)

/-- What a request keeps (R4, R17), by the same measure: besides the four commands, what the lane handles by lot state
and role at an IDLE lane alone changes work. -/
theorem request_induct {P : State → Prop} (window : ∀ u, WindowOnly s u → P u) (load : P (s.cmdLoad n))
    (close : P (s.cmdClose n)) (release : ∀ arg, P (s.cmdRelease n arg)) (lowest : ∀ arg, P (s.cmdLowest n arg))
    (byLot : s.lanes[n].state = .idle → ∀ k a d data, P (s.byLot n k a d data))
    (k : Kind) (a : Address) (data : Word) : P (s.request n k a data) := by
  unfold State.request
  split
  · next hidle =>
    unfold State.classify
    dsimp only
    split
    · exact window _ ((windowOnly_answer s n .parity none).trans (windowOnly_raiseExc _ n .parity))
    · split
      · split
        · exact window _ (windowOnly_claimRead s n _)
        · exact claimWrite_induct window load close release lowest _ data
      · split
        · exact byLot hidle _ _ _ _
        · exact window _ (windowOnly_answer s n .detached none)
  · exact window _ (windowOnly_busy s n)

end Sys2Proof.Machine.ClaimWords
end


section
/-! Sites, lanes and timers fit together (R2, R11, R72, R81, R82, R88, R89, R93, R104, R105, R117, R120, R123): what each
operation on a site keeps. -/

namespace Sys2Proof.Machine.SiteCoherence

open LotStates ReelSupply

/-! ## One site -/

/-- A site context and its timers agree (R82, R89, R93, R104, R105, R120, R123). -/
structure KeyFits (c : SiteContext) (t : SiteTimers) : Prop where
  key : c.binding.isSome ↔ c.state.holdsKey
  suspect : c.suspect ↔ c.state = .armed
  capture : c.state = .programmed ∨ c.capture = Vector.replicate 2 none
  contact : c.state = .vacant ↔ t.debouncer ≠ .established
  dwell : t.dwell.isRunning ↔ c.state = .staging
  watchdog : t.watchdog.isRunning ↔ c.state = .armed
  exposed : ∀ b ∈ c.binding, b.stageSet.toList.any id → b.exposed
  burning : ∀ b ∈ c.binding, c.state ≠ .staging → b.exposed ∧ b.inFlight = none

/-- A site and its lane agree: on what waits (R2, R72, R117), and on the key word in flight (R81, R88). -/
structure LaneFits (c : SiteContext) (keyWait : Timer) (l : Lane) (waits : Bool) : Prop where
  lane : l.Ok
  held : waits ↔ l.state = .held
  ready : waits → c.state = .ready
  keyWait : keyWait.isRunning ↔ waits
  flight : ∀ b ∈ c.binding, ∀ o ∈ b.inFlight, l.state = .outbound ∧
    ∀ t ∈ l.transaction, t.role = .stage ∧ t.observed ∧ t.stageOffset = o

/-- A site, its timers and its lane fit together. -/
structure SiteFits (c : SiteContext) (t : SiteTimers) (l : Lane) (waits : Bool) : Prop
    extends KeyFits c t, LaneFits c t.keyWait l waits

section

variable {c : SiteContext} {t : SiteTimers} {l : Lane} {w : Bool}

/-! ### A site without a key (R82) -/

theorem KeyFits.binding_none (h : KeyFits c t) (hstate : c.state.holdsKey = false) : c.binding = none :=
  Option.not_isSome_iff_eq_none.1 fun hbound => by rw [h.key.1 hbound] at hstate; cases hstate

theorem KeyFits.suspect_false (h : KeyFits c t) (hstate : c.state ≠ .armed) : c.suspect = false :=
  Bool.not_eq_true _ ▸ mt h.suspect.1 hstate

theorem KeyFits.capture_empty (h : KeyFits c t) (hstate : c.state ≠ .programmed) :
    c.capture = Vector.replicate 2 none :=
  h.capture.resolve_left hstate

theorem KeyFits.dwell_stopped (h : KeyFits c t) (hstate : c.state ≠ .staging) : t.dwell.isRunning = false :=
  Bool.not_eq_true _ ▸ mt h.dwell.1 hstate

theorem KeyFits.watchdog_stopped (h : KeyFits c t) (hstate : c.state ≠ .armed) : t.watchdog.isRunning = false :=
  Bool.not_eq_true _ ▸ mt h.watchdog.1 hstate

/-- A state without a key is none of the three with one. -/
theorem keyless_ne {x : SiteState} (h : x.holdsKey = false) : x ≠ .staging ∧ x ≠ .armed ∧ x ≠ .programmed := by
  refine ⟨?_, ?_, ?_⟩ <;> rintro rfl <;> cases h

/-- What a site without a key needs. -/
theorem keyFits_of_keyless (hstate : c.state.holdsKey = false) (hbinding : c.binding = none)
    (hsuspect : c.suspect = false) (hcapture : c.capture = Vector.replicate 2 none)
    (hcontact : c.state = .vacant ↔ t.debouncer ≠ .established) (hdwell : t.dwell.isRunning = false)
    (hwatchdog : t.watchdog.isRunning = false) : KeyFits c t := by
  obtain ⟨hstaging, harmed, -⟩ := keyless_ne hstate
  have hnone : ∀ {p : Binding → Prop}, ∀ b ∈ c.binding, p b := fun b hb => by rw [hbinding] at hb; cases hb
  refine ⟨?_, ?_, .inr hcapture, hcontact, ?_, ?_, hnone, hnone⟩
  · rw [hbinding, hstate]
    rfl
  · rw [hsuspect]
    exact iff_of_false Bool.false_ne_true harmed
  · rw [hdwell]
    exact iff_of_false Bool.false_ne_true hstaging
  · rw [hwatchdog]
    exact iff_of_false Bool.false_ne_true harmed

/-- A site without a key goes to another state without one. -/
theorem KeyFits.keyless (h : KeyFits c t) (hstate : c.state.holdsKey = false) {c' : SiteContext} {t' : SiteTimers}
    (hnext : c'.state.holdsKey = false) (hbinding : c'.binding = c.binding) (hsuspect : c'.suspect = c.suspect)
    (hcapture : c'.capture = c.capture) (hcontact : c'.state = .vacant ↔ t'.debouncer ≠ .established)
    (hdwell : t'.dwell = t.dwell) (hwatchdog : t'.watchdog = t.watchdog) : KeyFits c' t' := by
  obtain ⟨hstaging, harmed, hprogrammed⟩ := keyless_ne hstate
  exact keyFits_of_keyless hnext (hbinding.trans (h.binding_none hstate)) (hsuspect.trans (h.suspect_false harmed))
    (hcapture.trans (h.capture_empty hprogrammed)) hcontact (hdwell ▸ h.dwell_stopped hstaging)
    (hwatchdog ▸ h.watchdog_stopped harmed)

/-- The key-wait timer is the lane's matter. -/
theorem KeyFits.setKeyWait (h : KeyFits c t) (k : Timer) : KeyFits c { t with keyWait := k } :=
  ⟨h.key, h.suspect, h.capture, h.contact, h.dwell, h.watchdog, h.exposed, h.burning⟩

/-- A site context that differs in what the invariants do not read; captured words may, in PROGRAMMED. -/
theorem KeyFits.congr (h : KeyFits c t) {c' : SiteContext} (hstate : c'.state = c.state)
    (hbinding : c'.binding = c.binding) (hsuspect : c'.suspect = c.suspect)
    (hcapture : c.state = .programmed ∨ c'.capture = c.capture) : KeyFits c' t := by
  obtain ⟨hkey, hsus, hcap, hcontact, hdwell, hwatchdog, hexposed, hburning⟩ := h
  rw [← hstate, ← hbinding] at *
  rw [← hsuspect] at hsus
  refine ⟨hkey, hsus, ?_, hcontact, hdwell, hwatchdog, hexposed, hburning⟩
  rcases hcapture with hprogrammed | hsame
  · exact .inl hprogrammed
  · rw [hsame]
    exact hcap

/-- Established contact is a state other than VACANT. -/
theorem KeyFits.established (h : KeyFits c t) (hstate : c.state ≠ .vacant) : t.debouncer = .established :=
  not_not.1 (mt h.contact.2 hstate)

/-- In a state other than VACANT at a site in contact, both sides of R104 fail. -/
theorem contact_iff {x : SiteState} (hx : x ≠ .vacant) {d : Debouncer} (hd : d = .established) :
    x = .vacant ↔ d ≠ .established :=
  iff_of_false hx (not_not.2 hd)

/-! ### A site that takes a key (R73, R86), arms (R93) and burns (R94 to R96) -/

/-- A READY site that a key is bound to, with its word for offset `o` in flight. -/
theorem siteFits_bound (h : KeyFits c t) (hready : c.state = .ready) (hkeyWait : t.keyWait.isRunning = false)
    (e : KeyEntry) {o : Fin 8} (limit response : Nat) {x : Transaction} (hrole : x.role = .stage)
    (hobserved : x.observed = true) (ho : x.stageOffset = o) :
    SiteFits
      { c with
        state := .staging
        binding := some ⟨e.serial, e.key, e.check, Vector.replicate 8 false, false, some o⟩
        attempts := 0, capture := Vector.replicate 2 none, suspect := false }
      { t with dwell := .running 0 limit } ⟨.outbound, .running 0 response, some x⟩ false where
  key := iff_of_true rfl rfl
  suspect := iff_of_false Bool.false_ne_true nofun
  capture := .inr rfl
  contact := contact_iff (x := .staging) nofun (h.established (by rw [hready]; nofun))
  dwell := iff_of_true rfl rfl
  watchdog := by
    rw [h.watchdog_stopped (by rw [hready]; nofun)]
    exact iff_of_false Bool.false_ne_true nofun
  exposed b hb hany := by
    cases hb
    exact absurd hany (by simp)
  burning b hb hstate := absurd rfl hstate
  lane := ⟨iff_of_true rfl (.inl rfl), iff_of_true rfl (.inl rfl), nofun⟩
  held := iff_of_false Bool.false_ne_true nofun
  ready := nofun
  keyWait := by rw [hkeyWait]
  flight b hb o' ho' := by
    cases hb
    cases ho'
    exact ⟨rfl, fun y hy => by cases hy; exact ⟨hrole, hobserved, ho⟩⟩

theorem any_of_complete {b : Binding} (h : b.complete = true) : b.stageSet.toList.any id = true := by
  have hall := List.all_eq_true.1 h
  exact List.any_eq_true.2 ⟨b.stageSet[0], by simp, hall _ (by simp)⟩

/-- A STAGING site with a complete stage set and no word in flight is ARMED. -/
theorem KeyFits.arm (h : KeyFits c t) (hstaging : c.state = .staging) {b : Binding} (hb : c.binding = some b)
    (hcomplete : b.complete = true) (hlanded : b.inFlight = none) (limit : Nat) :
    KeyFits { c with state := .armed, suspect := true } { t with dwell := .stopped, watchdog := .running 0 limit } where
  key := iff_of_true (by rw [hb]; rfl) rfl
  suspect := iff_of_true rfl rfl
  capture := .inr (h.capture_empty (by rw [hstaging]; nofun))
  contact := contact_iff (x := .armed) nofun (h.established (by rw [hstaging]; nofun))
  dwell := iff_of_false Bool.false_ne_true nofun
  watchdog := iff_of_true rfl rfl
  exposed := h.exposed
  burning x hx _ := by
    cases hb.symm.trans hx
    exact ⟨h.exposed b hb (any_of_complete hcomplete), hlanded⟩

/-- An ARMED site goes back to STAGING. -/
theorem KeyFits.backToStaging (h : KeyFits c t) (harmed : c.state = .armed) (limit : Nat) :
    KeyFits { c with state := .staging, suspect := false }
      { t with dwell := .running 0 limit, watchdog := .stopped } where
  key := iff_of_true (h.key.2 (by rw [harmed]; rfl)) rfl
  suspect := iff_of_false Bool.false_ne_true nofun
  capture := .inr (h.capture_empty (by rw [harmed]; nofun))
  contact := contact_iff (x := .staging) nofun (h.established (by rw [harmed]; nofun))
  dwell := iff_of_true rfl rfl
  watchdog := iff_of_false Bool.false_ne_true nofun
  exposed := h.exposed
  burning x hx hstate := absurd rfl hstate

/-- An ARMED site is PROGRAMMED. -/
theorem KeyFits.programmed (h : KeyFits c t) (harmed : c.state = .armed) :
    KeyFits { c with state := .programmed, suspect := false, capture := Vector.replicate 2 none }
      { t with watchdog := .stopped } where
  key := iff_of_true (h.key.2 (by rw [harmed]; rfl)) rfl
  suspect := iff_of_false Bool.false_ne_true nofun
  capture := .inl rfl
  contact := contact_iff (x := .programmed) nofun (h.established (by rw [harmed]; nofun))
  dwell := by
    rw [h.dwell_stopped (by rw [harmed]; nofun)]
    exact iff_of_false Bool.false_ne_true nofun
  watchdog := iff_of_false Bool.false_ne_true nofun
  exposed := h.exposed
  burning x hx _ := h.burning x hx (by rw [harmed]; nofun)

/-- A word in flight is a word of a site in STAGING. -/
theorem KeyFits.staging_of_inFlight (h : KeyFits c t) {b : Binding} (hb : c.binding = some b)
    (hflight : b.inFlight ≠ none) : c.state = .staging :=
  not_not.1 fun hstate => hflight (h.burning b hb hstate).2

/-- The outcome of the word in flight (R89) leaves none, and a word accepted is exposed. -/
theorem KeyFits.stageOutcome (h : KeyFits c t) {b : Binding} (hb : c.binding = some b) (hstaging : c.state = .staging)
    (i : Fin 8) (o : DieOutcome) : KeyFits { c with binding := some (b.stageOutcome i o) } t where
  key := iff_of_true rfl (by rw [hstaging]; rfl)
  suspect := h.suspect
  capture := h.capture
  contact := h.contact
  dwell := h.dwell
  watchdog := h.watchdog
  exposed x hx hany := by
    cases hx
    cases o with
    | ok data => rfl
    | nak => exact h.exposed b hb hany
    | timeout => rfl
  burning x hx hstate := absurd hstaging hstate

theorem stageOutcome_inFlight_none (b : Binding) (i : Fin 8) (o : DieOutcome) : (b.stageOutcome i o).inFlight = none := by
  cases o <;> rfl

/-- A word goes into flight (R88). -/
theorem KeyFits.setInFlight (h : KeyFits c t) {b : Binding} (hb : c.binding = some b) (hstaging : c.state = .staging)
    (o : Fin 8) : KeyFits { c with binding := some { b with inFlight := some o } } t where
  key := iff_of_true rfl (by rw [hstaging]; rfl)
  suspect := h.suspect
  capture := h.capture
  contact := h.contact
  dwell := h.dwell
  watchdog := h.watchdog
  exposed x hx hany := by
    cases hx
    exact h.exposed b hb hany
  burning x hx hstate := absurd hstaging hstate

/-! ### A lane without a held write -/

theorem LaneFits.keyWait_stopped {k : Timer} (h : LaneFits c k l w) (hw : w = false) : k.isRunning = false := by
  subst hw
  exact Bool.not_eq_true _ ▸ mt h.keyWait.1 Bool.false_ne_true

theorem LaneFits.not_held {k : Timer} (h : LaneFits c k l w) (hw : w = false) : l.state ≠ .held := by
  subst hw
  exact mt h.held.2 Bool.false_ne_true

theorem LaneFits.not_waiting {k : Timer} (h : LaneFits c k l w) (hstate : c.state ≠ .ready) : w = false :=
  Bool.not_eq_true _ ▸ mt h.ready hstate

/-- A lane in flight without a key word in flight. -/
theorem laneFits_of_landed {k : Timer} (hl : l.Ok) (hheld : l.state ≠ .held) (hk : k.isRunning = false) (hw : w = false)
    (hlanded : ∀ b ∈ c.binding, b.inFlight = none) : LaneFits c k l w := by
  subst hw
  refine ⟨hl, iff_of_false Bool.false_ne_true hheld, nofun, by rw [hk], fun b hb o ho => ?_⟩
  rw [hlanded b hb] at ho
  cases ho

theorem idle_ok : Lane.idle.Ok := by decide

end

/-! ## Every site -/

/-- Every site, its timers and its lane fit together. -/
def SitesFit (s : State) : Prop := ∀ n : Site, SiteFits s.sites[n] s.timers[n] s.lanes[n] s.pool.waiting[n]

/-- Every site but `n` fits; site `n` fits its timers, waits for nothing and has no key word in flight, so that its lane
may end what it carries. -/
structure LandedParts (sites : PerSite SiteContext) (timers : PerSite SiteTimers) (lanes : PerSite Lane)
    (waiting : SiteSet) (n : Site) : Prop where
  elsewhere : ∀ m : Site, m ≠ n → SiteFits sites[m] timers[m] lanes[m] waiting[m]
  keys : KeyFits sites[n] timers[n]
  landed : ∀ b ∈ sites[n].binding, b.inFlight = none
  keyWait : timers[n].keyWait.isRunning = false
  waits : waiting[n] = false

/-- The state in which an event at site `n` is at work. -/
def Landed (s : State) (n : Site) : Prop := LandedParts s.sites s.timers s.lanes s.pool.waiting n

variable {s u : State} {n : Site}

theorem sitesFit_of_coherent (h : s.Coherent) : SitesFit s := fun n =>
  have ⟨hkey, hsuspect, hcapture, hcontact⟩ := h.sites n
  have ⟨hheld, hready, hkeyWait, hdwell, hwatchdog⟩ := h.waits n
  ⟨⟨hkey, hsuspect, hcapture, hcontact, hdwell, hwatchdog, fun b hb => (h.burns n b hb).1,
    fun b hb => (h.burns n b hb).2⟩, ⟨h.lanes n, hheld, hready, hkeyWait, h.flights n⟩⟩

/-- A site at whose lane nothing is in flight, and which does not wait, is one that an event can be at work at. -/
theorem SitesFit.landed (h : SitesFit s) (hn : s.pool.waiting[n] = false)
    (hlanded : ∀ b ∈ s.sites[n].binding, b.inFlight = none) : Landed s n :=
  ⟨fun m _ => h m, (h n).toKeyFits, hlanded, (h n).keyWait_stopped hn, hn⟩

theorem SitesFit.not_waiting_of_lane (h : SitesFit s) (hn : s.lanes[n].state ≠ .held) : s.pool.waiting[n] = false :=
  Bool.not_eq_true _ ▸ mt (h n).held.1 hn

/-- A key word is in flight on an OUTBOUND lane alone. -/
theorem SitesFit.landed_of_lane (h : SitesFit s) (hn : s.lanes[n].state ≠ .held)
    (hout : s.lanes[n].state ≠ .outbound) : Landed s n :=
  h.landed (h.not_waiting_of_lane hn) fun b hb =>
    Option.eq_none_iff_forall_not_mem.2 fun o ho => hout ((h n).flight b hb o ho).1

theorem SitesFit.landed_idle (h : SitesFit s) (hidle : s.lanes[n].state = .idle) : Landed s n :=
  h.landed_of_lane (by rw [hidle]; nofun) (by rw [hidle]; nofun)

/-- Every site but `n` by what it was, and site `n` as it is now. -/
theorem sitesFit_of_parts {sites : PerSite SiteContext} {timers : PerSite SiteTimers} {lanes : PerSite Lane}
    {waiting : SiteSet} (helse : ∀ m : Site, m ≠ n → SiteFits sites[m] timers[m] lanes[m] waiting[m])
    (hsites : ∀ m : Site, m ≠ n → u.sites[m] = sites[m]) (htimers : ∀ m : Site, m ≠ n → u.timers[m] = timers[m])
    (hlanes : ∀ m : Site, m ≠ n → u.lanes[m] = lanes[m])
    (hwaiting : ∀ m : Site, m ≠ n → u.pool.waiting[m] = waiting[m])
    (hn : SiteFits u.sites[n] u.timers[n] u.lanes[n] u.pool.waiting[n]) : SitesFit u := by
  intro m
  by_cases hm : m = n
  · subst hm
    exact hn
  · rw [hsites m hm, htimers m hm, hlanes m hm, hwaiting m hm]
    exact helse m hm

/-- The end of what the lane carried. -/
theorem Landed.setLane (h : Landed s n) {l : Lane} (hl : l.Ok) (hheld : l.state ≠ .held) : SitesFit (s.setLane n l) := by
  refine sitesFit_of_parts h.elsewhere (fun _ _ => rfl) (fun _ _ => rfl) (fun m hm => perSite_set_ne _ _ hm)
    (fun _ _ => rfl) ⟨h.keys, ?_⟩
  rw [State.setLane_lanes, perSite_set_self]
  exact laneFits_of_landed hl hheld h.keyWait h.waits h.landed

/-- A lane that carries on. -/
theorem Landed.sitesFit (h : Landed s n) (hl : s.lanes[n].Ok) (hheld : s.lanes[n].state ≠ .held) : SitesFit s :=
  sitesFit_of_parts h.elsewhere (fun _ _ => rfl) (fun _ _ => rfl) (fun _ _ => rfl) (fun _ _ => rfl)
    ⟨h.keys, laneFits_of_landed hl hheld h.keyWait h.waits h.landed⟩

theorem Landed.forward (h : Landed s n) (t : Transaction) (d : Option Word) : SitesFit (s.forward n t d) :=
  Landed.setLane (s := s.send _) h ⟨iff_of_true rfl (.inl rfl), iff_of_true rfl (.inl rfl), nofun⟩ nofun

theorem Landed.setLane_idle (h : Landed s n) : SitesFit (s.setLane n Lane.idle) := h.setLane idle_ok nofun

/-- Another site context at the site at work, and other timers. -/
theorem Landed.setSite_setTimers (h : Landed s n) {c : SiteContext} {t : SiteTimers} (hkeys : KeyFits c t)
    (hlanded : ∀ b ∈ c.binding, b.inFlight = none) (hkeyWait : t.keyWait = s.timers[n].keyWait) :
    Landed ((s.setSite n c).setTimers n t) n := by
  have hsite : (s.sites.set n c)[n] = c := perSite_set_self _ _ _
  have htimers : (s.timers.set n t)[n] = t := perSite_set_self _ _ _
  refine ⟨fun m hm => ?_, ?_, ?_, ?_, h.waits⟩
  · show SiteFits (s.sites.set n c)[m] (s.timers.set n t)[m] s.lanes[m] s.pool.waiting[m]
    rw [perSite_set_ne _ _ hm, perSite_set_ne _ _ hm]
    exact h.elsewhere m hm
  · show KeyFits (s.sites.set n c)[n] (s.timers.set n t)[n]
    rw [hsite, htimers]
    exact hkeys
  · show ∀ b ∈ (s.sites.set n c)[n].binding, _
    rw [hsite]
    exact hlanded
  · show (s.timers.set n t)[n].keyWait.isRunning = false
    rw [htimers, hkeyWait]
    exact h.keyWait

/-- An entry replaced by itself. -/
theorem perSite_set_same {α : Type} (v : PerSite α) (n : Site) : v.set n v[n] = v := perSite_ext fun m => by
  rw [perSite_set]
  split
  · next hm => rw [hm]
  · rfl

/-- Another site context at the site at work. -/
theorem Landed.setSite (h : Landed s n) {c : SiteContext} (hkeys : KeyFits c s.timers[n])
    (hlanded : ∀ b ∈ c.binding, b.inFlight = none) : Landed (s.setSite n c) n := by
  have hsame : s.timers.set n s.timers[n] = s.timers := perSite_set_same _ n
  have hset := h.setSite_setTimers hkeys hlanded rfl
  rw [Landed, State.setTimers_timers, State.setSite_timers, hsame] at hset
  exact hset

/-- A site context without a word in flight, at a site that does not wait. -/
theorem SitesFit.landed_setSite (h : SitesFit s) (hn : s.pool.waiting[n] = false) {c : SiteContext}
    (hkeys : KeyFits c s.timers[n]) (hlanded : ∀ b ∈ c.binding, b.inFlight = none) : Landed (s.setSite n c) n := by
  have hsite : (s.sites.set n c)[n] = c := perSite_set_self _ _ _
  refine ⟨fun m hm => ?_, ?_, ?_, (h n).keyWait_stopped hn, hn⟩
  · show SiteFits (s.sites.set n c)[m] _ _ _
    rw [perSite_set_ne _ _ hm]
    exact h m
  · show KeyFits (s.sites.set n c)[n] _
    rw [hsite]
    exact hkeys
  · show ∀ b ∈ (s.sites.set n c)[n].binding, _
    rw [hsite]
    exact hlanded

/-! ### Held writes (R16, R72, R117) -/

/-- A waiting site that waits no longer: READY, without a key. -/
theorem SitesFit.unwait (h : SitesFit s) (hn : s.pool.waiting[n] = true) :
    Landed ((s.setWaiting n false).stopKeyWait n) n := by
  have hnone : s.sites[n].binding = none := (h n).binding_none (by rw [(h n).ready hn]; rfl)
  have htimers : ((s.setWaiting n false).stopKeyWait n).timers[n] = { s.timers[n] with keyWait := .stopped } :=
    perSite_set_self _ _ _
  refine ⟨fun m hm => ?_, ?_, fun b hb => ?_, ?_, perSite_set_self _ _ _⟩
  · show SiteFits s.sites[m] (s.timers.set n _)[m] s.lanes[m] (s.pool.waiting.set n false)[m]
    rw [perSite_set_ne _ _ hm, perSite_set_ne _ _ hm]
    exact h m
  · rw [htimers]
    exact (h n).setKeyWait .stopped
  · cases hnone.symm.trans hb
  · rw [htimers]
    rfl

/-- A held write that ends without a key. -/
theorem SitesFit.dropHeld (h : SitesFit s) (hn : s.pool.waiting[n] = true) (st : Status) :
    SitesFit (s.dropHeld n st) :=
  (h.unwait hn).setLane_idle

theorem SitesFit.leaveOpen (h : SitesFit s) : SitesFit s.leaveOpen :=
  leaveOpen_induct (P := SitesFit) (fun _ _ hu hn => hu.dropHeld hn .refused) s h

/-- A READY site goes without a key into a state without one (R87). -/
theorem Landed.blank (h : Landed s n) (hready : s.sites[n].state = .ready) : Landed (s.blank n) n := by
  have hkeyless : s.sites[n].state.holdsKey = false := by rw [hready]; rfl
  refine Landed.setSite (s := (s.useRes _).raiseTally .blanked) h (h.keys.keyless hkeyless rfl rfl rfl rfl ?_ rfl rfl)
    h.landed
  exact contact_iff (x := .blanked) nofun (h.keys.established (by rw [hready]; nofun))

/-- A site starts to wait (R69). -/
theorem Landed.startWaiting (h : Landed s n) (hready : s.sites[n].state = .ready) (limit : Nat) {t : Transaction}
    (ht : t.kind = .write ∧ t.role = .stage) :
    SitesFit ((((s.setWaiting n true).setTimers n { s.timers[n] with keyWait := .running 0 limit }).setLane n
      ⟨.held, .stopped, some t⟩)) := by
  refine sitesFit_of_parts h.elsewhere (fun _ _ => rfl) (fun m hm => perSite_set_ne _ _ hm)
    (fun m hm => perSite_set_ne _ _ hm) (fun m hm => perSite_set_ne _ _ hm) ?_
  show SiteFits s.sites[n] (s.timers.set n _)[n] (s.lanes.set n _)[n] (s.pool.waiting.set n true)[n]
  rw [perSite_set_self, perSite_set_self, perSite_set_self]
  refine ⟨h.keys.setKeyWait _, ⟨iff_of_true rfl (.inr rfl), iff_of_false Bool.false_ne_true nofun, ?_⟩,
    iff_of_true rfl rfl, fun _ => hready, iff_of_true rfl rfl, fun b hb o ho => ?_⟩
  · rintro - x hx
    cases hx
    exact ht
  · rw [h.landed b hb] at ho
    cases ho

/-! ### Keys (R73, R86, R100 to R102) -/

/-- A key bound to a READY site, its word forwarded (R73, R86). -/
theorem Landed.bindKey_forward (h : Landed s n) (hready : s.sites[n].state = .ready) (e : KeyEntry) {x : Transaction}
    (hrole : x.role = .stage) (hobserved : x.observed = true) {o : Fin 8} (ho : x.stageOffset = o) (d : Option Word) :
    SitesFit ((s.bindKey n e o).forward n x d) := by
  refine sitesFit_of_parts h.elsewhere (fun m hm => perSite_set_ne _ _ hm) (fun m hm => perSite_set_ne _ _ hm)
    (fun m hm => perSite_set_ne _ _ hm) (fun _ _ => rfl) ?_
  show SiteFits (s.sites.set n _)[n] (s.timers.set n _)[n] (s.lanes.set n _)[n] s.pool.waiting[n]
  rw [perSite_set_self, perSite_set_self, perSite_set_self, h.waits]
  exact siteFits_bound h.keys hready h.keyWait e s.image.dwellLimit _ hrole hobserved ho

/-- A key word goes into flight (R88). -/
theorem Landed.inFlight_forward (h : Landed s n) {b : Binding} (hb : s.sites[n].binding = some b)
    (hstaging : s.sites[n].state = .staging) {x : Transaction} (hrole : x.role = .stage) (hobserved : x.observed = true)
    (d : Option Word) :
    SitesFit ((s.setSite n { s.sites[n] with binding := some { b with inFlight := some x.stageOffset } }).forward n x
      d) := by
  refine sitesFit_of_parts h.elsewhere (fun m hm => perSite_set_ne _ _ hm) (fun _ _ => rfl)
    (fun m hm => perSite_set_ne _ _ hm) (fun _ _ => rfl) ?_
  show SiteFits (s.sites.set n _)[n] s.timers[n] (s.lanes.set n _)[n] s.pool.waiting[n]
  rw [perSite_set_self, perSite_set_self, h.waits]
  refine ⟨h.keys.setInFlight hb hstaging _, ⟨iff_of_true rfl (.inl rfl), iff_of_true rfl (.inl rfl), nofun⟩,
    iff_of_false nofun nofun, nofun, ?_, fun b' hb' o ho => ?_⟩
  · rw [h.keyWait]
  · cases hb'
    cases ho
    exact ⟨rfl, fun y hy => by cases hy; exact ⟨hrole, hobserved, rfl⟩⟩

/-- A held write is a STAGE write (R11). -/
theorem SitesFit.heldWrite_role (h : SitesFit s) (n : Site) (hn : s.pool.waiting[n] = true) :
    (s.heldWrite n).role = .stage := by
  obtain ⟨-, -, hstage⟩ := (h n).lane
  have hheld := (h n).held.1 hn
  unfold State.heldWrite
  cases ht : s.lanes[n].transaction with
  | none => rfl
  | some t => exact (hstage hheld t ht).2

/-- A key handed out to a waiting site (R73). -/
theorem SitesFit.handOut (h : SitesFit s) (hn : s.pool.waiting[n] = true) (e : KeyEntry) : SitesFit (s.handOut n e) :=
  Landed.bindKey_forward (s := { (s.setWaiting n false).stopKeyWait n with pool := _ }) (h.unwait hn) ((h n).ready hn) e
    (x := { s.heldWrite n with observed := true }) (h.heldWrite_role n hn) rfl rfl
    (some e.key[(s.heldWrite n).stageOffset])

theorem SitesFit.deliver (h : SitesFit s) (e : KeyEntry) (front : Bool) : SitesFit (s.deliver e front) := by
  rcases deliver_cases s e front with ⟨n, hn, heq⟩ | ⟨-, heq⟩ <;> rw [heq]
  · exact h.handOut (recipient_some hn).1 e
  · exact h

/-- What an event at a site with a key rests on, whether or not the site still fits its timers: a contact loss has begun
where it does not (R18, R105). -/
structure KeyedParts (sites : PerSite SiteContext) (timers : PerSite SiteTimers) (lanes : PerSite Lane)
    (waiting : SiteSet) (n : Site) : Prop where
  elsewhere : ∀ m : Site, m ≠ n → SiteFits sites[m] timers[m] lanes[m] waiting[m]
  keyed : sites[n].binding.isSome
  keyWait : timers[n].keyWait.isRunning = false
  waits : waiting[n] = false
  lane : lanes[n].Ok
  notHeld : lanes[n].state ≠ .held

/-- A site with a key, of which an event disposes. -/
def Keyed (s : State) (n : Site) : Prop := KeyedParts s.sites s.timers s.lanes s.pool.waiting n

/-- A site in a state that holds a key. -/
theorem SitesFit.keyed (h : SitesFit s) (hstate : s.sites[n].state.holdsKey = true) : Keyed s n :=
  have hwaits : s.pool.waiting[n] = false := (h n).not_waiting fun hready => by rw [hready] at hstate; cases hstate
  ⟨fun m _ => h m, (h n).key.2 hstate, (h n).keyWait_stopped hwaits, hwaits, (h n).lane, (h n).not_held hwaits⟩

/-- A site with a key, whatever else its context says: its key is disposed of next. -/
theorem Keyed.setSite (h : Keyed s n) {c : SiteContext} (hc : c.binding = s.sites[n].binding) :
    Keyed (s.setSite n c) n := by
  refine ⟨fun m hm => ?_, ?_, h.keyWait, h.waits, h.lane, h.notHeld⟩
  · show SiteFits (s.sites.set n c)[m] _ _ _
    rw [perSite_set_ne _ _ hm]
    exact h.elsewhere m hm
  · show (s.sites.set n c)[n].binding.isSome = true
    rw [perSite_set_self, hc]
    exact h.keyed

/-- The binding ends in a state without a key, which shows the site's contact (R100 to R102). -/
theorem Keyed.endBinding (h : Keyed s n) {next : SiteState} (hnext : next.holdsKey = false)
    (hcontact : next = .vacant ↔ s.timers[n].debouncer ≠ .established) (last : LastOutcome) :
    Landed (s.endBinding n next last) n := by
  have hsite : (s.endBinding n next last).sites[n] = _ := perSite_set_self _ _ _
  have htimers : (s.endBinding n next last).timers[n] = _ := perSite_set_self _ _ _
  refine ⟨fun m hm => ?_, ?_, fun b hb => ?_, ?_, h.waits⟩
  · show SiteFits (s.sites.set n _)[m] (s.timers.set n _)[m] s.lanes[m] s.pool.waiting[m]
    rw [perSite_set_ne _ _ hm, perSite_set_ne _ _ hm]
    exact h.elsewhere m hm
  · rw [hsite, htimers]
    exact keyFits_of_keyless hnext rfl rfl rfl hcontact rfl rfl
  · rw [hsite] at hb
    cases hb
  · rw [htimers]
    exact h.keyWait

theorem Keyed.spoil (h : Keyed s n) (r : SpoilReason) {next : SiteState} (hnext : next.holdsKey = false)
    (hcontact : next = .vacant ↔ s.timers[n].debouncer ≠ .established) : Landed (s.spoil n r next) n := by
  obtain ⟨b, hb⟩ := Option.isSome_iff_exists.1 h.keyed
  rw [State.spoil, hb]
  exact Keyed.endBinding (s := (s.useRes _).raiseTally .spoiled) h hnext hcontact _

theorem Keyed.commit (h : Keyed s n) (hcontact : s.timers[n].debouncer = .established) : Landed (s.commit n) n := by
  obtain ⟨b, hb⟩ := Option.isSome_iff_exists.1 h.keyed
  rw [State.commit, hb]
  exact Keyed.endBinding (s := (s.useRes _).raiseTally .committed) h rfl (contact_iff (by decide) hcontact) _

/-- The lane of a site whose binding has ended carries on. -/
theorem Keyed.sitesFit (h : Keyed s n) (hu : Landed u n) (hlanes : u.lanes = s.lanes) : SitesFit u :=
  hu.sitesFit (by rw [hlanes]; exact h.lane) (by rw [hlanes]; exact h.notHeld)

theorem spoil_lanes (s : State) (n : Site) (r : SpoilReason) (next : SiteState) :
    (s.spoil n r next).lanes = s.lanes := by
  unfold State.spoil
  split <;> rfl

theorem Keyed.spoil_sitesFit (h : Keyed s n) (r : SpoilReason) {next : SiteState} (hnext : next.holdsKey = false)
    (hcontact : next = .vacant ↔ s.timers[n].debouncer ≠ .established) : SitesFit (s.spoil n r next) :=
  h.sitesFit (h.spoil r hnext hcontact) (spoil_lanes s n r next)

/-- The key goes to a waiting site, which is another one, or to the deque (R102). -/
theorem Keyed.returnKey (h : Keyed s n) {next : SiteState} (hnext : next.holdsKey = false)
    (hcontact : next = .vacant ↔ s.timers[n].debouncer ≠ .established) : SitesFit (s.returnKey n next) := by
  obtain ⟨b, hb⟩ := Option.isSome_iff_exists.1 h.keyed
  have hended : SitesFit (s.endBinding n next .returned) := h.sitesFit (h.endBinding hnext hcontact _) rfl
  rw [State.returnKey, hb]
  exact SitesFit.deliver (s := (s.endBinding n next .returned).releaseRes) hended _ true

theorem Keyed.endStaging (h : Keyed s n) (r : SpoilReason) {spoiled returned : SiteState}
    (hspoiled : spoiled.holdsKey = false) (hreturned : returned.holdsKey = false)
    (hcontact : (spoiled = .vacant ↔ s.timers[n].debouncer ≠ .established) ∧
      (returned = .vacant ↔ s.timers[n].debouncer ≠ .established)) :
    SitesFit (s.endStaging n r spoiled returned) := by
  obtain ⟨b, hb⟩ := Option.isSome_iff_exists.1 h.keyed
  rcases endStaging_cases hb r spoiled returned with ⟨-, heq⟩ | ⟨-, heq⟩ <;> rw [heq]
  · exact h.spoil_sitesFit r hspoiled hcontact.1
  · exact h.returnKey hreturned hcontact.2

/-! ### The end of an event, and the lot's changes -/

theorem SitesFit.finish (h : SitesFit s) : SitesFit s.finish := by
  obtain ⟨hsites, htimers, hlanes, -, -, -, -, -, -, -, hwaiting, -, -⟩ := finish_frame s
  rw [SitesFit, hsites, htimers, hlanes, hwaiting]
  exact h

theorem Landed.finish (h : Landed s n) : Landed s.finish n := by
  obtain ⟨hsites, htimers, hlanes, -, -, -, -, -, -, -, hwaiting, -, -⟩ := finish_frame s
  rw [Landed, hsites, htimers, hlanes, hwaiting]
  exact h

theorem SitesFit.freePort (h : SitesFit s) : SitesFit s.freePort := h

theorem SitesFit.endDraw (h : SitesFit s) : SitesFit s.endDraw := by
  unfold State.endDraw
  split <;> exact h

theorem SitesFit.halt (h : SitesFit s) (c : HaltCause) : SitesFit (s.halt c) := by
  unfold State.halt
  split
  · have hended : SitesFit s.leaveOpen.freePort.endDraw := h.leaveOpen.freePort.endDraw
    generalize s.leaveOpen.freePort.endDraw = u at hended ⊢
    exact hended
  · exact h

theorem restart_isRunning (limit : Nat) (t : Timer) : (t.restart limit).isRunning = t.isRunning := by
  cases t <;> rfl

theorem count_isRunning (t : Timer) : t.count.isRunning = t.isRunning := by
  cases t <;> rfl

theorem restart_established (d : Debouncer) : d.restart = .established ↔ d = .established := by
  cases d <;> simp [Debouncer.restart]

theorem count_established (d : Debouncer) : d.count = .established ↔ d = .established := by
  cases d <;> simp [Debouncer.count]

/-- Another count or limit of a running lane timer. -/
theorem ok_setTimer {l : Lane} (h : l.Ok) {t : Timer} (ht : t.isRunning = l.timer.isRunning) :
    { l with timer := t }.Ok :=
  ⟨h.1, by rw [ht]; exact h.2.1, h.2.2⟩

/-- New parameters in force stop the site timers, of which none runs where no key is bound and no site waits (R20,
R113). -/
theorem SitesFit.retime (h : SitesFit s) (hkeys : ∀ n : Site, s.sites[n].binding = none)
    (hwaits : ∀ n : Site, s.pool.waiting[n] = false) : SitesFit s.retime := by
  intro n
  have hkeyless : s.sites[n].state.holdsKey = false :=
    Bool.not_eq_true _ ▸ mt (h n).key.2 (by rw [hkeys n]; exact Bool.false_ne_true)
  obtain ⟨hstaging, harmed, hprogrammed⟩ := keyless_ne hkeyless
  rw [State.retime_lane, State.retime_timers]
  refine ⟨keyFits_of_keyless hkeyless (hkeys n) ((h n).suspect_false harmed) ((h n).capture_empty hprogrammed)
    ((h n).contact.trans (not_congr (restart_established _)).symm) rfl rfl, laneFits_of_landed ?_ ?_ rfl (hwaits n) ?_⟩
  · exact ok_setTimer (h n).lane (restart_isRunning _ _)
  · exact (h n).not_held (hwaits n)
  · intro b hb
    cases (hkeys n).symm.trans hb

/-- A tick changes counts alone (R111, R112). -/
theorem SitesFit.countTick (h : SitesFit s) : SitesFit s.countTick := by
  intro n
  obtain ⟨⟨hkey, hsuspect, hcapture, hcontact, hdwell, hwatchdog, hexposed, hburning⟩,
    ⟨hlane, hheld, hready, hkeyWait, hflight⟩⟩ := h n
  rw [State.countTick_lane, State.countTick_timers]
  exact ⟨⟨hkey, hsuspect, hcapture, hcontact.trans (not_congr (count_established _)).symm,
    by rw [count_isRunning]; exact hdwell, by rw [count_isRunning]; exact hwatchdog, hexposed, hburning⟩,
    ⟨ok_setTimer hlane (count_isRunning _), hheld, hready, by rw [count_isRunning]; exact hkeyWait, hflight⟩⟩

/-- A fresh context at a site whose lane holds no write (R33, R104). -/
theorem siteFits_fresh {l : Lane} (hl : l.Ok) (hheld : l.state ≠ .held) {d d' : Debouncer}
    (hd : d' = .established ↔ d = .established) {k dwell watchdog : Timer} (hk : k.isRunning = false)
    (hdwell : dwell.isRunning = false) (hwatchdog : watchdog.isRunning = false) :
    SiteFits (SiteContext.atOpen d) ⟨d', k, dwell, watchdog⟩ l false := by
  rw [atOpen_eq]
  refine ⟨keyFits_of_keyless ?_ rfl rfl rfl ?_ hdwell hwatchdog, laneFits_of_landed hl hheld hk rfl nofun⟩
  · dsimp only
    split <;> rfl
  · dsimp only
    rw [ne_eq, hd]
    split
    · next hd => exact contact_iff (by decide) hd
    · next hd => exact iff_of_true rfl hd

/-- Lot open, from a state in which no site waits (R33). -/
theorem SitesFit.lotOpen (h : SitesFit s) (hwaits : ∀ n : Site, s.pool.waiting[n] = false) (im : LotImage) :
    SitesFit (s.freePort.lotOpen im) := by
  rw [lotOpen_freePort_eq]
  intro n
  dsimp only
  rw [perSite_ofFn, perSite_ofFn, perSite_ofFn, perSite_replicate, ← atOpen_eq, ← debouncer_restart_eq,
    ← timer_restart_eq]
  exact siteFits_fresh (ok_setTimer (h n).lane (restart_isRunning _ _)) ((h n).not_held (hwaits n))
    (restart_established _) rfl rfl rfl

theorem sitesFit_resetBy (s : State) (c : ResetCause) : SitesFit (s.resetBy c) := by
  intro n
  have hsite : (s.resetBy c).sites[n] = SiteContext.atOpen s.timers[n].debouncer.afterReset := by
    show (Vector.replicate 8 SiteContext.default)[n] = _
    rw [perSite_replicate]
    cases s.timers[n].debouncer <;> rfl
  have htimers : (s.resetBy c).timers[n] = ⟨s.timers[n].debouncer.afterReset, .stopped, .stopped, .stopped⟩ :=
    perSite_ofFn _ n
  have hlane : (s.resetBy c).lanes[n] = Lane.idle := perSite_replicate _ n
  have hwaits : (s.resetBy c).pool.waiting[n] = false := perSite_replicate _ n
  rw [hsite, htimers, hlane, hwaits]
  exact siteFits_fresh idle_ok nofun Iff.rfl rfl rfl rfl

/-! ### Contact (R18, R104, R105, R115) -/

/-- Establishment at a site out of contact (R104). -/
theorem SitesFit.establish (h : SitesFit s) (hn : s.timers[n].debouncer ≠ .established) : SitesFit (s.establish n) := by
  have hvacant : s.sites[n].state = .vacant := (h n).contact.2 hn
  have hwaits : s.pool.waiting[n] = false := (h n).not_waiting (by rw [hvacant]; nofun)
  have hsite : (s.establish n).sites[n] = SiteContext.atOpen .established := perSite_set_self _ _ _
  have htimers : (s.establish n).timers[n] = { s.timers[n] with debouncer := .established } := perSite_set_self _ _ _
  refine sitesFit_of_parts (fun m _ => h m) (fun m hm => perSite_set_ne _ _ hm) (fun m hm => perSite_set_ne _ _ hm)
    (fun _ _ => rfl) (fun _ _ => rfl) ?_
  rw [hsite, htimers, State.establish_lanes, State.establish_pool, hwaits]
  exact siteFits_fresh (h n).lane ((h n).not_held hwaits) Iff.rfl ((h n).keyWait_stopped hwaits)
    ((h n).dwell_stopped (by rw [hvacant]; nofun)) ((h n).watchdog_stopped (by rw [hvacant]; nofun))

/-- A debouncer that moves out of contact. -/
theorem SitesFit.setDebouncer (h : SitesFit s) (hn : s.timers[n].debouncer ≠ .established) {d : Debouncer}
    (hd : d ≠ .established) : SitesFit (s.setTimers n { s.timers[n] with debouncer := d }) := by
  refine sitesFit_of_parts (fun m _ => h m) (fun _ _ => rfl) (fun m hm => perSite_set_ne _ _ hm)
    (fun _ _ => rfl) (fun _ _ => rfl) ?_
  rw [State.setTimers_timers, perSite_set_self]
  obtain ⟨⟨hkey, hsuspect, hcapture, hcontact, hdwell, hwatchdog, hexposed, hburning⟩, hlane⟩ := h n
  exact ⟨⟨hkey, hsuspect, hcapture, hcontact.trans (iff_of_true hn hd), hdwell, hwatchdog, hexposed, hburning⟩, hlane⟩

/-- Contact loss begun: the debouncer is LOW and the lane IDLE, and site `n` is still in its old state. -/
def contactLost (s : State) (n : Site) : State :=
  (s.setTimers n { s.timers[n] with debouncer := .low }).laneLoss n

theorem contactLost_frame (s : State) (n : Site) :
    (contactLost s n).sites = s.sites ∧ (contactLost s n).pool = s.pool ∧ (contactLost s n).lot = s.lot ∧
    (contactLost s n).supply = s.supply ∧ (contactLost s n).log = s.log ∧
    (contactLost s n).timers = s.timers.set n { s.timers[n] with debouncer := .low } := by
  unfold contactLost State.laneLoss
  split <;> exact ⟨rfl, rfl, rfl, rfl, rfl, rfl⟩

theorem lane_eq_idle {l : Lane} (h : l.Ok) (hstate : l.state = .idle) : l = Lane.idle := by
  obtain ⟨state, timer, transaction⟩ := l
  obtain rfl : state = .idle := hstate
  obtain ⟨hcarries, hruns, -⟩ := h
  cases transaction with
  | some t => exact nomatch hcarries.1 rfl
  | none =>
    cases timer with
    | running c limit => exact nomatch hruns.1 rfl
    | stopped => rfl

/-- The lane of a lost contact is IDLE (R18). -/
theorem contactLost_lanes (h : s.lanes[n].Ok) : (contactLost s n).lanes = s.lanes.set n Lane.idle := by
  unfold contactLost State.laneLoss
  split
  · next hidle =>
    show s.lanes = _
    rw [← lane_eq_idle h hidle, perSite_set_same]
  all_goals rfl

/-- A lost contact at a site without a key that no longer waits: VACANT (R105). -/
theorem SitesFit.lose (h : SitesFit s) (hkeyless : s.sites[n].state.holdsKey = false) {k : Timer}
    (hk : k.isRunning = false) (hsites : u.sites = s.sites.set n { s.sites[n] with state := .vacant })
    (htimers : u.timers = s.timers.set n { s.timers[n] with debouncer := .low, keyWait := k })
    (hlanes : u.lanes = s.lanes.set n Lane.idle)
    (hwaiting : ∀ m : Site, m ≠ n → u.pool.waiting[m] = s.pool.waiting[m]) (hn : u.pool.waiting[n] = false) :
    SitesFit u := by
  have hbinding := (h n).binding_none hkeyless
  refine sitesFit_of_parts (fun m _ => h m) (fun m hm => ?_) (fun m hm => ?_) (fun m hm => ?_) hwaiting ?_
  · rw [hsites, perSite_set_ne _ _ hm]
  · rw [htimers, perSite_set_ne _ _ hm]
  · rw [hlanes, perSite_set_ne _ _ hm]
  · rw [hsites, htimers, hlanes, perSite_set_self, perSite_set_self, perSite_set_self, hn]
    refine ⟨(h n).toKeyFits.keyless hkeyless rfl rfl rfl rfl (iff_of_true rfl nofun) rfl rfl,
      laneFits_of_landed idle_ok nofun hk rfl fun b hb => ?_⟩
    cases hbinding.symm.trans hb

/-- A lost contact at a site with a key, which the event disposes of (R105). -/
theorem SitesFit.keyed_contactLost (h : SitesFit s) (hstate : s.sites[n].state.holdsKey = true) :
    Keyed (contactLost s n) n ∧ (contactLost s n).timers[n].debouncer ≠ .established := by
  obtain ⟨hsites, hpool, -, -, -, htimers⟩ := contactLost_frame s n
  have hkeyed := h.keyed hstate
  have hlanes := contactLost_lanes hkeyed.lane
  rw [Keyed, hsites, hpool, htimers, hlanes]
  refine ⟨⟨fun m hm => ?_, hkeyed.keyed, ?_, hkeyed.waits, ?_, ?_⟩, ?_⟩
  · rw [perSite_set_ne _ _ hm, perSite_set_ne _ _ hm]
    exact h m
  · rw [perSite_set_self]
    exact hkeyed.keyWait
  · rw [perSite_set_self]
    exact idle_ok
  · rw [perSite_set_self]
    exact nofun
  · rw [perSite_set_self]
    exact nofun

/-! ### Expiries (R118, R121, R124) -/

/-- The dwell timer and the watchdog of a site that the event ends. -/
theorem Keyed.stopBurnTimers (h : Keyed s n) : Keyed (s.stopBurnTimers n) n := by
  refine ⟨fun m hm => ?_, h.keyed, ?_, h.waits, h.lane, h.notHeld⟩
  · show SiteFits s.sites[m] (s.timers.set n _)[m] s.lanes[m] s.pool.waiting[m]
    rw [perSite_set_ne _ _ hm]
    exact h.elsewhere m hm
  · show (s.timers.set n _)[n].keyWait.isRunning = false
    rw [perSite_set_self]
    exact h.keyWait

theorem stopBurnTimers_debouncer (s : State) (n : Site) :
    (s.stopBurnTimers n).timers[n].debouncer = s.timers[n].debouncer := by
  rw [State.stopBurnTimers, State.setTimers_timers, perSite_set_self]

/-- A site without a key in another state without one, its contact and its lane as they were (R103). -/
theorem SitesFit.setKeyless (h : SitesFit s) (hstate : s.sites[n].state.holdsKey = false)
    (hready : s.sites[n].state ≠ .ready) (hvacant : s.sites[n].state ≠ .vacant) {next : SiteState}
    (hnext : next.holdsKey = false) (hnotVacant : next ≠ .vacant) :
    SitesFit (s.setSite n { s.sites[n] with state := next }) := by
  have hbinding := (h n).binding_none hstate
  have hwaits := (h n).not_waiting hready
  have hkeys := (h n).toKeyFits.keyless hstate (c' := { s.sites[n] with state := next }) (t' := s.timers[n]) hnext rfl rfl
    rfl (contact_iff hnotVacant ((h n).established hvacant)) rfl rfl
  refine (h.landed_setSite hwaits hkeys fun b hb => ?_).sitesFit (h n).lane ((h n).not_held hwaits)
  cases hbinding.symm.trans hb

end Sys2Proof.Machine.SiteCoherence
end

section
/-! The lot, the port, the pool and the log fit together (R21, R24, R37, R38, R42, R44, R46, R65, R75, R151, R152): what
each operation keeps. -/

namespace Sys2Proof.Machine.LotCoherence

open LotStates ReelSupply LeavingOpen

/-- The lot states in which keys, records and reservations may be held (R37, R42). -/
def HasLot (l : LotState) : Prop := l = .opened ∨ l = .draining ∨ l = .halted

/-- The lot controller and the supply engine agree (R21, R24, R44, R46). -/
structure EngineFits (lot : LotController) (p : Supply) : Prop where
  reserved : p.fetchReservation ↔ p.draw.isSome
  transfer : p.draw = some .transfer ↔ p.port = .fetch
  unwrap : p.draw = some .unwrap ↔ p.unwrap.isSome
  page : p.page.isSome ↔ p.port = .append
  timer : p.timerRunning ↔ p.port ≠ .free
  failures : p.appendFailures ≤ 2
  cause : lot.haltCause ≠ .none ↔ lot.state = .halted
  loadError : lot.loadError ≠ .none → lot.state = .unloaded
  image : lot.state.imageInForce → lot.image.isSome
  loading : p.port = .image ↔ lot.state = .loading
  port : lot.state = .opened ∨ lot.state = .draining ∨ p.port = .free ∨ p.port = .image
  draw : lot.state = .opened ∨ lot.state = .draining ∨ p.draw = none

/-- What the pool and the log may hold in a lot state (R34, R37, R65, R75). -/
structure PoolFits (l : LotState) (p : Pool) (bound : Nat) (records : List LogRecord) (reserved : Nat) : Prop where
  waits : l = .opened ∨ ∀ n : Site, p.waiting[n] = false
  empty : HasLot l ∨ p.deque = [] ∧ bound = 0 ∧ records = [] ∧ reserved = 0
  idle : (∀ n : Site, p.waiting[n] = false) ∨ p.deque = []
  ring : p.ring.Nodup ∧ ∀ n : Site, n ∈ p.ring

/-- The page names the front of the log (R152), and the CLOSE record ends the log of a drained lot (R38, R151). -/
structure LogFits (lot : LotController) (p : Supply) (deque : List KeyEntry) (bound : Nat)
    (records : List LogRecord) : Prop where
  page : ∀ x ∈ p.page, 1 ≤ x.length ∧ x.length ≤ 4 ∧ x = (records.map LogRecord.seq).take x.length
  newest : records.dropLast.any LogRecord.isClose = false
  close : records.any LogRecord.isClose →
    lot.closeQueued ∧ (bound = 0 ∧ p.draw = none ∧ deque = []) ∧ (lot.state = .draining ∨ lot.state = .halted)

/-- The three together, over what they read. -/
structure LotParts (lot : LotController) (supply : Supply) (pool : Pool) (bound : Nat) (records : List LogRecord)
    (reserved : Nat) : Prop where
  engine : EngineFits lot supply
  held : PoolFits lot.state pool bound records reserved
  log : LogFits lot supply pool.deque bound records

/-- The lot, the port, the pool and the log of a state fit together. An operation that leaves these alone keeps it by
definition. -/
def LotFits (s : State) : Prop := LotParts s.lot s.supply s.pool s.bindings s.log.records s.log.reservations

/-- The log may take a record that is not the CLOSE record. -/
def Recording (s : State) : Prop := HasLot s.lot.state ∧ s.log.records.any LogRecord.isClose = false

variable {s u : State} {n : Site}

theorem waiters_eq_zero (s : State) : s.waiters = 0 ↔ ∀ n : Site, s.pool.waiting[n] = false := by
  rw [waiters_eq_countP, List.countP_eq_zero]
  exact ⟨fun h n => Bool.not_eq_true _ ▸ h n (List.mem_finRange n), fun h n _ => by rw [h n]; exact Bool.false_ne_true⟩

theorem lotFits_of_coherent (h : s.Coherent) : LotFits s := by
  obtain ⟨hreserved, htransfer, hunwrap, hpage, htimer, hfailures⟩ := h.supply
  obtain ⟨hcause, hload, himage, hloading, hport, hdraw, hwaits, hempty⟩ := h.lot
  obtain ⟨hnewest, hclose⟩ := h.close
  refine ⟨⟨hreserved, htransfer, hunwrap, hpage, htimer, hfailures, hcause, hload, himage, hloading, hport, hdraw⟩,
    ⟨hwaits.imp_right (waiters_eq_zero s).1, ?_, h.pool.imp_left (waiters_eq_zero s).1, h.ring⟩,
    ⟨h.page, hnewest, fun hany => ?_⟩⟩
  · rcases hempty with hlot | hlot | hlot | hnothing
    · exact .inl (.inl hlot)
    · exact .inl (.inr (.inl hlot))
    · exact .inl (.inr (.inr hlot))
    · exact .inr hnothing
  · obtain ⟨hqueued, hdrained, hlot⟩ := hclose hany
    exact ⟨hqueued, (drained_iff s).1 hdrained, hlot⟩

/-! ## What the log may record -/

/-- In a lot that is not drained no CLOSE record stands in the log. -/
theorem LotFits.no_close (h : LotFits s) (hkept : ¬ (s.bindings = 0 ∧ s.supply.draw = none ∧ s.pool.deque = [])) :
    s.log.records.any LogRecord.isClose = false :=
  Bool.not_eq_true _ ▸ fun hany => hkept (h.log.close hany).2.1

theorem LotFits.recording_of_opened (h : LotFits s) (hopened : s.lot.state = .opened) : Recording s := by
  refine ⟨.inl hopened, Bool.not_eq_true _ ▸ fun hany => ?_⟩
  obtain ⟨-, -, hlot⟩ := h.log.close hany
  rw [hopened] at hlot
  exact hlot.elim nofun nofun

theorem LotFits.opened_of_waiting (h : LotFits s) (hn : s.pool.waiting[n] = true) : s.lot.state = .opened :=
  h.held.waits.resolve_right fun hnone => by rw [hnone n] at hn; cases hn

theorem LotFits.recording_of_waiting (h : LotFits s) (hn : s.pool.waiting[n] = true) : Recording s :=
  h.recording_of_opened (h.opened_of_waiting hn)

theorem LotFits.hasLot_of_bound (h : LotFits s) {b : Binding} (hb : s.sites[n].binding = some b) :
    HasLot s.lot.state := by
  refine h.held.empty.resolve_right fun ⟨_, hbound, _⟩ => ?_
  rw [(bindings_eq_zero s).1 hbound n] at hb
  cases hb

theorem LotFits.recording_of_bound (h : LotFits s) {b : Binding} (hb : s.sites[n].binding = some b) :
    Recording s := by
  refine ⟨h.hasLot_of_bound hb, h.no_close fun ⟨hbound, _⟩ => ?_⟩
  rw [(bindings_eq_zero s).1 hbound n] at hb
  cases hb

theorem LotFits.recording_of_draw (h : LotFits s) (hdraw : s.supply.draw ≠ none) : Recording s := by
  refine ⟨?_, h.no_close fun ⟨_, hnone, _⟩ => hdraw hnone⟩
  rcases h.engine.draw with hopened | hdraining | hnone
  · exact .inl hopened
  · exact .inr (.inl hdraining)
  · exact absurd hnone hdraw

/-- Where no lot is held, no key is bound and no site waits. -/
theorem LotFits.keyless (h : LotFits s) (hlot : ¬ HasLot s.lot.state) :
    (∀ n : Site, s.sites[n].binding = none) ∧ ∀ n : Site, s.pool.waiting[n] = false := by
  obtain ⟨-, hbound, -⟩ := h.held.empty.resolve_left hlot
  exact ⟨(bindings_eq_zero s).1 hbound, h.held.waits.resolve_left fun hopened => hlot (.inl hopened)⟩

/-! ## Keys, reservations and records -/

/-- Fewer keys, waiting sites and reservations. -/
theorem LotFits.shrink (h : LotFits s) (hlot : u.lot = s.lot) (hsupply : u.supply = s.supply)
    (hrecords : u.log.records = s.log.records) (hring : u.pool.ring = s.pool.ring)
    (hdeque : u.pool.deque = s.pool.deque)
    (hwaiting : ∀ n : Site, s.pool.waiting[n] = false → u.pool.waiting[n] = false)
    (hbound : u.bindings ≤ s.bindings) (hreserved : u.log.reservations ≤ s.log.reservations) : LotFits u := by
  have hall : (∀ n : Site, s.pool.waiting[n] = false) → ∀ n : Site, u.pool.waiting[n] = false :=
    fun hnone n => hwaiting n (hnone n)
  unfold LotFits
  rw [hlot, hsupply, hrecords]
  refine ⟨h.engine, ⟨h.held.waits.imp_right hall, h.held.empty.imp_right ?_, ?_, hring ▸ h.held.ring⟩, ?_⟩
  · rintro ⟨hnone, hunbound, hempty, hfree⟩
    exact ⟨hdeque ▸ hnone, by omega, hempty, by omega⟩
  · rw [hdeque]
    exact h.held.idle.imp_left hall
  · refine ⟨h.log.page, h.log.newest, fun hany => ?_⟩
    obtain ⟨hqueued, ⟨hunbound, hdrawn, hnone⟩, hstate⟩ := h.log.close hany
    exact ⟨hqueued, ⟨by omega, hdrawn, hdeque ▸ hnone⟩, hstate⟩

/-- A site context with a key only where the old one has one. -/
theorem LotFits.setSite (h : LotFits s) {c : SiteContext}
    (hc : c.binding.isSome = true → s.sites[n].binding.isSome = true) : LotFits (s.setSite n c) := by
  refine h.shrink rfl rfl rfl rfl rfl (fun _ => id) ?_ (le_refl _)
  have hset := bindings_set s n c
  have hcount : (s.setSite n c).bindings = (s.sites.set n c).toList.countP (·.binding.isSome) := rfl
  rw [hcount]
  by_cases hbound : c.binding.isSome = true
  · rw [if_pos hbound, if_pos (hc hbound)] at hset
    omega
  · rw [if_neg hbound] at hset
    omega

theorem LotFits.releaseRes (h : LotFits s) : LotFits s.releaseRes :=
  h.shrink rfl rfl rfl rfl rfl (fun _ => id) (le_refl _) (Nat.sub_le _ _)

theorem LotFits.unsetWaiting (h : LotFits s) : LotFits (s.setWaiting n false) := by
  refine h.shrink rfl rfl rfl rfl rfl (fun m hm => ?_) (le_refl _) (le_refl _)
  show (s.pool.waiting.set n false)[m] = false
  rw [perSite_set]
  split
  · rfl
  · exact hm

theorem LotFits.dropHeld (h : LotFits s) (st : Status) : LotFits (s.dropHeld n st) :=
  LotFits.releaseRes (s := (s.setWaiting n false).stopKeyWait n) h.unsetWaiting

theorem LotFits.leaveOpen (h : LotFits s) : LotFits s.leaveOpen :=
  leaveOpen_induct (P := LotFits) (fun _ _ hu _ => hu.dropHeld .refused) s h

/-- In OPEN keys and reservations move freely, as long as no site waits while the deque holds a key. -/
theorem LotFits.of_opened (h : LotFits s) (hopened : s.lot.state = .opened) (hlot : u.lot = s.lot)
    (hsupply : u.supply = s.supply) (hrecords : u.log.records = s.log.records)
    (hring : u.pool.ring.Nodup ∧ ∀ n : Site, n ∈ u.pool.ring)
    (hidle : (∀ n : Site, u.pool.waiting[n] = false) ∨ u.pool.deque = []) : LotFits u := by
  obtain ⟨-, hnone⟩ := h.recording_of_opened hopened
  unfold LotFits
  rw [hlot, hsupply, hrecords]
  refine ⟨h.engine, ⟨.inl hopened, .inl (.inl hopened), hidle, hring⟩, h.log.page, h.log.newest, fun hany => ?_⟩
  rw [hnone] at hany
  cases hany

/-- The page still names the front of a log that grows at its back. -/
theorem page_append {p : Supply} {records : List LogRecord} (r : LogRecord)
    (h : ∀ x ∈ p.page, 1 ≤ x.length ∧ x.length ≤ 4 ∧ x = (records.map LogRecord.seq).take x.length) :
    ∀ x ∈ p.page, 1 ≤ x.length ∧ x.length ≤ 4 ∧ x = ((records ++ [r]).map LogRecord.seq).take x.length := by
  intro x hx
  obtain ⟨hpos, hfour, hfront⟩ := h x hx
  refine ⟨hpos, hfour, ?_⟩
  have hlength : x.length ≤ (records.map LogRecord.seq).length := by
    have hsame := congrArg List.length hfront
    rw [List.length_take] at hsame
    omega
  rw [List.map_append, List.take_append_of_le_length hlength]
  exact hfront

/-- A record that is not the CLOSE record. -/
theorem LotFits.enqueue (h : LotFits s) (hrec : Recording s) {body : RecordBody}
    (hbody : LogRecord.isClose ⟨s.log.nextSeq, body⟩ = false) : LotFits (s.enqueue body) := by
  obtain ⟨hlot, hnone⟩ := hrec
  refine ⟨h.engine, ⟨h.held.waits, .inl hlot, h.held.idle, h.held.ring⟩, page_append _ h.log.page, ?_, fun hany => ?_⟩
  · rw [State.enqueue_log, List.dropLast_concat]
    exact hnone
  · rw [State.enqueue_log, List.any_append, hnone, List.any_cons, hbody] at hany
    cases hany

theorem LotFits.useRes (h : LotFits s) (hrec : Recording s) {body : RecordBody}
    (hbody : LogRecord.isClose ⟨s.log.nextSeq, body⟩ = false) : LotFits (s.useRes body) :=
  (h.enqueue hrec hbody).releaseRes

theorem LotFits.endBinding (h : LotFits s) (next : SiteState) (last : LastOutcome) :
    LotFits (s.endBinding n next last) :=
  h.setSite nofun

theorem LotFits.spoil (h : LotFits s) (r : SpoilReason) (next : SiteState) : LotFits (s.spoil n r next) := by
  unfold State.spoil
  split
  · exact h
  · next b hb =>
    exact LotFits.endBinding (s := (s.useRes _).raiseTally .spoiled) (h.useRes (h.recording_of_bound hb) rfl) next _

theorem LotFits.commit (h : LotFits s) : LotFits (s.commit n) := by
  unfold State.commit
  split
  · exact h
  · next b hb =>
    exact LotFits.endBinding (s := (s.useRes _).raiseTally .committed) (h.useRes (h.recording_of_bound hb) rfl) _ _

/-- A BLANK record, and a site without a key after one without a key (R87). -/
theorem LotFits.blank (h : LotFits s) (hrec : Recording s) : LotFits (s.blank n) :=
  LotFits.setSite (s := (s.useRes _).raiseTally .blanked) (h.useRes hrec rfl) id

/-! ## Delivery (R73, R75) -/

theorem LotFits.handOut (h : LotFits s) (hn : s.pool.waiting[n] = true) (e : KeyEntry) : LotFits (s.handOut n e) := by
  refine h.of_opened (h.opened_of_waiting hn) rfl rfl rfl (rotate_order n h.held.ring) (.inr ?_)
  exact h.held.idle.resolve_left fun hnone => by rw [hnone n] at hn; cases hn

/-- Where the ring finds no recipient no site waits. -/
theorem LotFits.not_waiting_of_recipient (h : LotFits s) (hnone : s.pool.recipient = none) (n : Site) :
    s.pool.waiting[n] = false :=
  Bool.not_eq_true _ ▸ List.find?_eq_none.1 hnone n (h.held.ring.2 n)

/-- A key joins the deque, which none waits for. -/
theorem LotFits.putKey (h : LotFits s) (hrec : Recording s) (hnone : ∀ n : Site, s.pool.waiting[n] = false)
    (deque : List KeyEntry) : LotFits { s with pool := { s.pool with deque := deque } } := by
  refine ⟨h.engine, ⟨h.held.waits, .inl hrec.1, .inl hnone, h.held.ring⟩, h.log.page, h.log.newest, fun hany => ?_⟩
  have hclose : s.log.records.any LogRecord.isClose = true := hany
  rw [hrec.2] at hclose
  cases hclose

theorem LotFits.deliver (h : LotFits s) (hrec : Recording s) (e : KeyEntry) (front : Bool) :
    LotFits (s.deliver e front) := by
  rcases deliver_cases s e front with ⟨n, hn, heq⟩ | ⟨hnone, heq⟩ <;> rw [heq]
  · exact h.handOut (recipient_some hn).1 e
  · exact h.putKey hrec (h.not_waiting_of_recipient hnone) _

theorem LotFits.returnKey (h : LotFits s) (next : SiteState) : LotFits (s.returnKey n next) := by
  unfold State.returnKey
  split
  · exact h
  · next b hb =>
    have hrec : Recording (s.endBinding n next .returned).releaseRes := h.recording_of_bound hb
    exact (h.endBinding next .returned).releaseRes.deliver hrec _ true

theorem LotFits.endStaging (h : LotFits s) (r : SpoilReason) (spoiled returned : SiteState) :
    LotFits (s.endStaging n r spoiled returned) := by
  unfold State.endStaging
  split
  · exact h
  · split
    · exact h.spoil r spoiled
    · exact h.returnKey returned

/-! ## What starts by itself (R37, R38, R52, R58 to R60) -/

theorem LotFits.page_none (h : LotFits s) (hport : s.supply.port ≠ .append) : s.supply.page = none :=
  Option.not_isSome_iff_eq_none.1 (mt h.engine.page.1 hport)

theorem LotFits.startFetch (h : LotFits s) (hport : s.supply.port = .free) (hwanted : s.fetchWanted = true) :
    LotFits s.startFetch := by
  obtain ⟨hopened, -, -, hunwrap, -⟩ := (fetchWanted_iff s).1 hwanted
  have hpage : s.supply.page = none := h.page_none (by rw [hport]; nofun)
  obtain ⟨-, hnone⟩ := h.recording_of_opened hopened
  have hloading : s.lot.state ≠ .loading := by rw [hopened]; nofun
  refine ⟨⟨iff_of_true rfl rfl, iff_of_true rfl rfl, ?_, ?_, iff_of_true rfl nofun, h.engine.failures, h.engine.cause,
    h.engine.loadError, h.engine.image, iff_of_false nofun hloading, .inl hopened, .inl hopened⟩,
    ⟨.inl hopened, .inl (.inl hopened), h.held.idle, h.held.ring⟩, h.log.page, h.log.newest, fun hany => ?_⟩
  · rw [State.startFetch_supply, hunwrap]
    exact iff_of_false nofun nofun
  · rw [State.startFetch_supply, hpage]
    exact iff_of_false nofun nofun
  · have hclose : s.log.records.any LogRecord.isClose = true := hany
    rw [hnone] at hclose
    cases hclose

theorem LotFits.startAppend (h : LotFits s) (hport : s.supply.port = .free) (hwanted : s.appendWanted = true) :
    LotFits s.startAppend := by
  obtain ⟨hlot, hrecords⟩ := (appendWanted_iff s).1 hwanted
  have hloading : s.lot.state ≠ .loading := by rcases hlot with hlot | hlot <;> rw [hlot] <;> nofun
  have hdraw : s.supply.draw ≠ some .transfer := fun hdraw => by
    have hfetch := h.engine.transfer.1 hdraw
    rw [hport] at hfetch
    cases hfetch
  refine ⟨⟨h.engine.reserved, iff_of_false hdraw nofun, h.engine.unwrap, iff_of_true rfl rfl, iff_of_true rfl nofun,
    h.engine.failures, h.engine.cause, h.engine.loadError, h.engine.image, iff_of_false nofun hloading,
    hlot.imp_right .inl, h.engine.draw⟩, h.held, fun x hx => ?_, h.log.newest, h.log.close⟩
  cases hx
  rw [List.length_map, List.length_take, State.startAppend_log, List.map_take]
  exact ⟨by omega, by omega, List.take_eq_take_min.trans (by rw [List.length_map])⟩

theorem LotFits.spoilUnused (h : LotFits s) (hdue : s.unusedDue = true) : LotFits s.spoilUnused := by
  obtain ⟨hdraining, -, kept, e, hdeque⟩ := unusedDue_back hdue
  have hfull : s.pool.deque ≠ [] := by rw [hdeque]; exact List.append_ne_nil_of_right_ne_nil kept nofun
  have hrec : Recording s := ⟨.inr (.inl hdraining), h.no_close fun ⟨_, _, hnone⟩ => hfull hnone⟩
  have hnone : ∀ n : Site, s.pool.waiting[n] = false := h.held.idle.resolve_right hfull
  rw [spoilUnused_eq hdeque]
  exact LotFits.enqueue (s := { s with pool := { s.pool with deque := kept } }) (h.putKey hrec hnone kept) hrec
    (body := .spoil none e.serial .unused Ident.absent false) rfl

theorem LotFits.queueClose (h : LotFits s) (hdue : s.closeDue = true) : LotFits s.queueClose := by
  obtain ⟨hdraining, hdrained, hqueued, -⟩ := (closeDue_iff s).1 hdue
  have hnone : s.log.records.any LogRecord.isClose = false := Bool.not_eq_true _ ▸ fun hany => by
    obtain ⟨hclosed, -⟩ := h.log.close hany
    rw [hqueued] at hclosed
    cases hclosed
  obtain ⟨hreserved, htransfer, hunwrap, hpage, htimer, hfailures, hcause, hload, himage, hloading, hport, hdraw⟩ :=
    h.engine
  refine ⟨⟨hreserved, htransfer, hunwrap, hpage, htimer, hfailures, hcause, hload, himage, hloading, hport, hdraw⟩,
    ⟨h.held.waits, .inl (.inr (.inl hdraining)), h.held.idle, h.held.ring⟩, page_append _ h.log.page, ?_, fun _ => ?_⟩
  · rw [State.queueClose_log, List.dropLast_concat]
    exact hnone
  · exact ⟨rfl, (drained_iff s).1 hdrained, .inl hdraining⟩

theorem LotFits.finish (h : LotFits s) : LotFits s.finish :=
  finish_induct (P := LotFits) (fun _ h hport hwanted => h.startFetch hport hwanted)
    (fun _ h hport hwanted => h.startAppend hport hwanted) (fun _ h hdue => h.spoilUnused hdue)
    (fun _ h _ hdue => h.queueClose hdue) (fun _ h => h) s h

end Sys2Proof.Machine.LotCoherence
end

section
/-! The lot, the port, the pool and the log fit together: loads, halts, the reel's answers, the unwrap unit and the end of
a lot (R29 to R42, R46 to R63). -/

namespace Sys2Proof.Machine.LotCoherence

open LotStates ReelSupply LeavingOpen LotAccounting

variable {s u : State} {n : Site}

/-! ## Without a lot (R21, R30, R31) -/

theorem not_hasLot {l : LotState} (h : NoLot l) : ¬ HasLot l := by
  rcases h with rfl | rfl | rfl <;> exact fun h => h.elim nofun fun h => h.elim nofun nofun

/-- The supply engine without a draw and without a page. -/
theorem engineFits_of_quiet {lot : LotController} {p : Supply} (hpage : p.page = none) (hdraw : p.draw = none)
    (hreserved : p.fetchReservation = false) (hunwrap : p.unwrap = none) (hfailures : p.appendFailures ≤ 2)
    (hport : p.port = .free ∨ p.port = .image) (htimer : p.timerRunning ↔ p.port ≠ .free)
    (hcause : lot.haltCause ≠ .none ↔ lot.state = .halted) (hload : lot.loadError ≠ .none → lot.state = .unloaded)
    (himage : lot.state.imageInForce → lot.image.isSome) (hloading : p.port = .image ↔ lot.state = .loading) :
    EngineFits lot p where
  reserved := by rw [hreserved, hdraw]; exact iff_of_false nofun nofun
  transfer := by
    rw [hdraw]
    exact iff_of_false nofun (by rcases hport with h | h <;> rw [h] <;> nofun)
  unwrap := by rw [hdraw, hunwrap]; exact iff_of_false nofun nofun
  page := by
    rw [hpage]
    exact iff_of_false nofun (by rcases hport with h | h <;> rw [h] <;> nofun)
  timer := htimer
  failures := hfailures
  cause := hcause
  loadError := hload
  image := himage
  loading := hloading
  port := .inr (.inr hport)
  draw := .inr (.inr hdraw)

/-- Without a lot the supply engine has neither a draw nor a page. -/
theorem EngineFits.quiet {lot : LotController} {p : Supply} (h : EngineFits lot p) (hopened : lot.state ≠ .opened)
    (hdraining : lot.state ≠ .draining) :
    p.page = none ∧ p.draw = none ∧ p.fetchReservation = false ∧ p.unwrap = none := by
  have hdraw : p.draw = none := (h.draw.resolve_left hopened).resolve_left hdraining
  have hport : p.port ≠ .append := by
    rcases (h.port.resolve_left hopened).resolve_left hdraining with hport | hport <;> rw [hport] <;> nofun
  refine ⟨Option.not_isSome_iff_eq_none.1 (mt h.page.1 hport), hdraw, Bool.not_eq_true _ ▸ fun hreserved => ?_,
    Option.not_isSome_iff_eq_none.1 fun hunwrap => ?_⟩
  · have hsome := h.reserved.1 hreserved
    rw [hdraw] at hsome
    cases hsome
  · have hsome := h.unwrap.2 hunwrap
    rw [hdraw] at hsome
    cases hsome

/-- Without a halt no halt cause is kept (R21). -/
theorem EngineFits.cause_of_ne {lot : LotController} {p : Supply} (h : EngineFits lot p) (hlot : lot.state ≠ .halted) :
    lot.haltCause = .none :=
  not_not.1 (mt h.cause.1 hlot)

/-- A load error is kept in UNLOADED alone (R21). -/
theorem EngineFits.loadError_of_ne {lot : LotController} {p : Supply} (h : EngineFits lot p)
    (hlot : lot.state ≠ .unloaded) : lot.loadError = .none :=
  not_not.1 (mt h.loadError hlot)

theorem PoolFits.of_noLot {l l' : LotState} {p : Pool} {bound reserved : Nat} {records : List LogRecord}
    (h : PoolFits l p bound records reserved) (hlot : NoLot l) : PoolFits l' p bound records reserved :=
  ⟨.inr (h.waits.resolve_left fun hopened => not_hasLot hlot (.inl hopened)), .inr (h.empty.resolve_left (not_hasLot hlot)),
    h.idle, h.ring⟩

/-- A log without records. -/
theorem logFits_nil {lot : LotController} {p : Supply} {deque : List KeyEntry} {bound : Nat} {records : List LogRecord}
    (hrecords : records = []) (hpage : p.page = none) : LogFits lot p deque bound records := by
  subst hrecords
  exact ⟨by rw [hpage]; exact nofun, rfl, nofun⟩

theorem LotFits.records_of_noLot (h : LotFits s) (hlot : NoLot s.lot.state) : s.log.records = [] :=
  (h.held.empty.resolve_left (not_hasLot hlot)).2.2.1

/-- UNLOADED, with the port FREE (R30, R31). -/
theorem LotFits.unload (h : LotFits s) (hlot : NoLot s.lot.state) (e : LoadError) :
    LotFits { s.freePort with lot := { s.lot with state := .unloaded, loadError := e } } := by
  obtain ⟨hopened, hdraining, hhalted⟩ := hlot.ne
  obtain ⟨-, hdraw, hreserved, hunwrap⟩ := h.engine.quiet hopened hdraining
  refine ⟨engineFits_of_quiet rfl hdraw hreserved hunwrap h.engine.failures (.inl rfl) (iff_of_false nofun (absurd rfl))
    (iff_of_false (not_not.2 (h.engine.cause_of_ne hhalted)) nofun) (fun _ => rfl) nofun (iff_of_false nofun nofun),
    h.held.of_noLot hlot, logFits_nil (h.records_of_noLot hlot) rfl⟩

/-- A FREE port has nothing to free. -/
theorem LotFits.freePort_eq (h : LotFits s) (hport : s.supply.port = .free) : s.freePort = s := by
  have hpage : s.supply.page = none := h.page_none (by rw [hport]; nofun)
  have htimer : s.supply.timerRunning = false := Bool.not_eq_true _ ▸ fun hruns => h.engine.timer.1 hruns hport
  have hsupply : s.freePort.supply = s.supply := by rw [State.freePort_supply, ← hport, ← htimer, ← hpage]
  show { s with supply := s.freePort.supply } = s
  rw [hsupply]

/-- In UNLOADED and CLOSED the port is FREE. -/
theorem LotFits.port_free (h : LotFits s) (hlot : s.lot.state = .unloaded ∨ s.lot.state = .closed) :
    s.supply.port = .free := by
  have hloading : s.lot.state ≠ .loading := by rcases hlot with h | h <;> rw [h] <;> nofun
  have hopened : s.lot.state ≠ .opened := by rcases hlot with h | h <;> rw [h] <;> nofun
  have hdraining : s.lot.state ≠ .draining := by rcases hlot with h | h <;> rw [h] <;> nofun
  exact ((h.engine.port.resolve_left hopened).resolve_left hdraining).resolve_right (mt h.engine.loading.1 hloading)

theorem LotFits.retime (h : LotFits s) : LotFits s.retime := h

theorem LotFits.failLoad (h : LotFits s) (hlot : NoLot s.lot.state) (e : LoadError) : LotFits (s.freePort.failLoad e) :=
  h.unload hlot e

theorem LotFits.enterLoading (h : LotFits s) (hlot : s.lot.state = .unloaded ∨ s.lot.state = .closed) :
    LotFits s.enterLoading := by
  have hnoLot : NoLot s.lot.state := hlot.imp_right .inr
  obtain ⟨hopened, hdraining, hhalted⟩ := hnoLot.ne
  obtain ⟨hpage, hdraw, hreserved, hunwrap⟩ := h.engine.quiet hopened hdraining
  have hloaded : LotFits
      { s with
        lot := { s.lot with state := .loading, loadError := .none }
        supply := { s.supply with port := .image, timerRunning := true }
        sent := s.sent ++ [.reel .image] } :=
    ⟨engineFits_of_quiet hpage hdraw hreserved hunwrap h.engine.failures (.inr rfl) (iff_of_true rfl nofun)
      (iff_of_false (not_not.2 (h.engine.cause_of_ne hhalted)) nofun) (absurd rfl) nofun (iff_of_true rfl rfl),
      h.held.of_noLot hnoLot, logFits_nil (h.records_of_noLot hnoLot) hpage⟩
  by_cases hclosed : s.lot.state = .closed
  · rw [enterLoading_of_closed hclosed]
    exact hloaded.retime
  · rw [enterLoading_of_ne_closed hclosed]
    exact hloaded

/-- Lot open (R33): an order of the sites is all that it rests on. -/
theorem LotFits.lotOpen (h : LotFits s) (im : LotImage) : LotFits (s.freePort.lotOpen im) := by
  have hbound := bindings_lotOpen s.freePort im
  unfold LotFits
  rw [hbound, lotOpen_freePort_eq]
  refine ⟨?_, ⟨.inl rfl, .inl (.inl rfl), .inr rfl, h.held.ring⟩, ⟨nofun, rfl, nofun⟩⟩
  exact engineFits_of_quiet rfl rfl rfl rfl (Nat.zero_le 2) (.inl rfl) (iff_of_false nofun (absurd rfl))
    (iff_of_false (absurd rfl) nofun) (absurd rfl) (fun _ => rfl) (iff_of_false nofun nofun)

theorem LotFits.imageArrived (h : LotFits s) (hport : s.supply.port = .image) (bytes : Vector Byte 128)
    (tagPasses : Bool) : LotFits (s.imageArrived bytes tagPasses) := by
  have hlot : NoLot s.lot.state := .inr (.inl (h.engine.loading.1 hport))
  unfold State.imageArrived
  split
  · split
    · next im _ => exact (h.lotOpen im).finish
    · exact h.failLoad hlot .format
  · exact h.failLoad hlot .tag

/-! ## The end of OPEN, and halts (R34, R35, R41) -/

theorem LotFits.supplyOk (h : LotFits s) : s.SupplyOk :=
  ⟨h.engine.reserved, h.engine.transfer, h.engine.unwrap, h.engine.page, h.engine.timer, h.engine.failures⟩

theorem leaveOpen_not_waiting (s : State) (n : Site) : s.leaveOpen.pool.waiting[n] = false := by
  rw [leaveOpen_eq]
  exact perSite_replicate false n

/-- DRAINING after OPEN, where no site waits. -/
theorem LotFits.drain (h : LotFits s) (hopened : s.lot.state = .opened) (hwaits : ∀ n : Site, s.pool.waiting[n] = false) :
    LotFits { s with lot := { s.lot with state := .draining } } := by
  obtain ⟨-, hnone⟩ := h.recording_of_opened hopened
  obtain ⟨hengine, hheld, hlog⟩ := h
  have hcause := hengine.cause_of_ne (by rw [hopened]; nofun)
  have hload := hengine.loadError_of_ne (by rw [hopened]; nofun)
  have himage := hengine.image (by rw [hopened]; rfl)
  have hport : s.supply.port ≠ .image := mt hengine.loading.1 (by rw [hopened]; nofun)
  refine ⟨⟨hengine.reserved, hengine.transfer, hengine.unwrap, hengine.page, hengine.timer, hengine.failures,
    iff_of_false (not_not.2 hcause) nofun, absurd hload, fun _ => himage, iff_of_false hport nofun, .inr (.inl rfl),
    .inr (.inl rfl)⟩, ⟨.inr hwaits, .inl (.inr (.inl rfl)), hheld.idle, hheld.ring⟩, hlog.page, hlog.newest,
    fun hany => ?_⟩
  have hclose : s.log.records.any LogRecord.isClose = true := hany
  rw [hnone] at hclose
  cases hclose

/-- DRAINING, the lot having left OPEN (R35). -/
theorem LotFits.close (h : LotFits s) (hopened : s.lot.state = .opened) :
    LotFits { s.leaveOpen with lot := { s.leaveOpen.lot with state := .draining } } :=
  h.leaveOpen.drain (by rw [State.leaveOpen_lot, hopened]) (leaveOpen_not_waiting s)

/-- HALTED after OPEN and DRAINING, where no site waits, with the port FREE and no draw. -/
theorem LotFits.halted (h : LotFits s) (hactive : s.lot.state = .opened ∨ s.lot.state = .draining)
    (hwaits : ∀ n : Site, s.pool.waiting[n] = false) {c : HaltCause} (hc : c ≠ .none) (reserved : Nat) :
    LotFits
      { s with
        lot := { s.lot with state := .halted, haltCause := c }
        supply := { s.supply with
          port := .free, timerRunning := false, page := none, draw := none, fetchReservation := false, unwrap := none }
        log := { s.log with reservations := reserved } } := by
  obtain ⟨hengine, hheld, hlog⟩ := h
  have hlot : s.lot.state ≠ .unloaded := by rcases hactive with h | h <;> rw [h] <;> nofun
  have hload := hengine.loadError_of_ne hlot
  have himage := hengine.image (imageInForce_of_active hactive)
  refine ⟨engineFits_of_quiet rfl rfl rfl rfl hengine.failures (.inl rfl) (iff_of_false nofun (absurd rfl))
    (iff_of_true hc rfl) (absurd hload) (fun _ => himage) (iff_of_false nofun nofun),
    ⟨.inr hwaits, .inl (.inr (.inr rfl)), hheld.idle, hheld.ring⟩, nofun, hlog.newest, fun hany => ?_⟩
  obtain ⟨hqueued, ⟨hbound, -, hdeque⟩, -⟩ := hlog.close hany
  exact ⟨hqueued, ⟨hbound, rfl, hdeque⟩, .inr rfl⟩

/-- A fatal supply failure of an active lot (R41). -/
theorem LotFits.halt (h : LotFits s) (hactive : s.lot.state = .opened ∨ s.lot.state = .draining) {c : HaltCause}
    (hc : c ≠ .none) : LotFits (s.halt c) := by
  have hhalted := h.leaveOpen.halted (by rw [State.leaveOpen_lot]; exact hactive) (leaveOpen_not_waiting s) hc
    (s.leaveOpen.log.reservations - s.draws)
  rw [State.leaveOpen_lot, State.leaveOpen_supply] at hhalted
  rw [halt_eq hactive h.supplyOk c]
  exact hhalted

/-- A halt that frees the port first (R57, R61 to R63). -/
theorem LotFits.abandon (h : LotFits s) (hactive : s.lot.state = .opened ∨ s.lot.state = .draining) {c : HaltCause}
    (hc : c ≠ .none) : LotFits (s.freePort.halt c).finish := by
  rw [freePort_halt hactive]
  exact (h.halt hactive hc).finish

/-! ## Answers to FETCH and the unwrap unit (R53 to R56) -/

/-- A lot with an operation other than IMAGE on the port, or with a draw, is active (R42, R46). -/
theorem LotFits.active (h : LotFits s) (hport : s.supply.port = .fetch ∨ s.supply.port = .append) :
    s.lot.state = .opened ∨ s.lot.state = .draining := by
  rcases h.engine.port with hopened | hdraining | hfree | himage
  · exact .inl hopened
  · exact .inr hdraining
  · rw [hfree] at hport
    exact hport.elim nofun nofun
  · rw [himage] at hport
    exact hport.elim nofun nofun

theorem LotFits.recordArrived (h : LotFits s) (hport : s.supply.port = .fetch) (bytes : Vector Byte 62) :
    LotFits (s.recordArrived bytes) := by
  have hactive := h.active (.inl hport)
  have hdraw : s.supply.draw = some .transfer := h.engine.transfer.2 hport
  have hloading : s.lot.state ≠ .loading := by rcases hactive with h | h <;> rw [h] <;> nofun
  have hreserved : s.supply.fetchReservation = true := h.engine.reserved.2 (by rw [hdraw]; rfl)
  refine LotFits.finish (s := { s.freePort with supply := _ }) ⟨⟨iff_of_true hreserved rfl, iff_of_false nofun nofun,
    iff_of_true rfl rfl, iff_of_false nofun nofun, iff_of_false nofun (absurd rfl), h.engine.failures, h.engine.cause,
    h.engine.loadError, h.engine.image, iff_of_false nofun hloading, ?_, ?_⟩, h.held, nofun, h.log.newest, fun hany => ?_⟩
  · exact hactive.imp_right .inl
  · exact hactive.imp_right .inl
  · obtain ⟨-, ⟨-, hnone, -⟩, -⟩ := h.log.close hany
    cases hdraw.symm.trans hnone

/-- The draw ends (R53, R55, R56), whatever is said of the port and the reel's end. -/
theorem LotFits.drawEnded (h : LotFits s) {p : Supply} (hdraw : p.draw = none) (hreserved : p.fetchReservation = false)
    (hunwrap : p.unwrap = none) (hpage : p.page = s.supply.page) (hfailures : p.appendFailures = s.supply.appendFailures)
    (hport : p.port = s.supply.port) (htimer : p.timerRunning = s.supply.timerRunning)
    (hfetch : s.supply.port ≠ .fetch) : LotFits { s with supply := p } := by
  obtain ⟨-, -, -, hpageShown, htimerShown, hfails, hcause, hload, himage, hloading, hportShown, -⟩ := h.engine
  rw [← hpage, ← hport] at hpageShown
  rw [← htimer, ← hport] at htimerShown
  rw [← hport] at hloading hportShown hfetch
  rw [← hfailures] at hfails
  refine ⟨⟨by rw [hreserved, hdraw]; exact iff_of_false nofun nofun, by rw [hdraw]; exact iff_of_false nofun hfetch,
    by rw [hdraw, hunwrap]; exact iff_of_false nofun nofun, hpageShown, htimerShown, hfails, hcause, hload, himage,
    hloading, hportShown, .inr (.inr hdraw)⟩, h.held, by rw [hpage]; exact h.log.page, h.log.newest, fun hany => ?_⟩
  obtain ⟨hqueued, ⟨hbound, -, hdeque⟩, hlot⟩ := h.log.close hany
  exact ⟨hqueued, ⟨hbound, hdraw, hdeque⟩, hlot⟩

/-- The port FREE and the draw ended, in a lot that does not load (R53, R60). -/
theorem LotFits.quieted (h : LotFits s) (hloading : s.lot.state ≠ .loading) {p : Supply} (hport : p.port = .free)
    (htimer : p.timerRunning = false) (hpage : p.page = none) (hdraw : p.draw = none)
    (hreserved : p.fetchReservation = false) (hunwrap : p.unwrap = none) (hfailures : p.appendFailures ≤ 2) :
    LotFits { s with supply := p } := by
  refine ⟨engineFits_of_quiet hpage hdraw hreserved hunwrap hfailures (.inl hport) ?_ h.engine.cause h.engine.loadError
    h.engine.image ?_, h.held, by rw [hpage]; exact nofun, h.log.newest, fun hany => ?_⟩
  · rw [htimer, hport]
    exact iff_of_false nofun (absurd rfl)
  · rw [hport]
    exact iff_of_false nofun hloading
  · obtain ⟨hqueued, ⟨hbound, -, hdeque⟩, hlot⟩ := h.log.close hany
    exact ⟨hqueued, ⟨hbound, hdraw, hdeque⟩, hlot⟩

theorem LotFits.not_loading (h : LotFits s) (hport : s.supply.port ≠ .image) : s.lot.state ≠ .loading :=
  mt h.engine.loading.2 hport

theorem LotFits.reelEnded (h : LotFits s) (hport : s.supply.port = .fetch) : LotFits s.reelEnded := by
  have hdraw : s.freePort.supply.draw ≠ none := by rw [State.freePort_supply, h.engine.transfer.2 hport]; nofun
  have hended : s.freePort.endDraw = _ := endDraw_eq hdraw
  unfold State.reelEnded
  rw [hended]
  exact (h.releaseRes.quieted (h.not_loading (by rw [hport]; nofun))
    (p := { s.freePort.supply with draw := none, fetchReservation := false, unwrap := none, exhausted := true })
    rfl rfl rfl rfl rfl rfl h.engine.failures).finish

/-- A BUSY unwrap unit is a draw that is not on the port (R44). -/
theorem LotFits.unwrapping (h : LotFits s) (hunwrap : s.supply.unwrap.isSome = true) :
    s.supply.draw ≠ none ∧ s.supply.port ≠ .fetch := by
  have hdraw := h.engine.unwrap.2 hunwrap
  refine ⟨by rw [hdraw]; nofun, fun hport => ?_⟩
  rw [h.engine.transfer.2 hport] at hdraw
  cases hdraw

theorem LotFits.rejectKey (h : LotFits s) (hunwrap : s.supply.unwrap.isSome = true) (serial : Serial)
    (reason : RejectReason) : LotFits (s.rejectKey serial reason) := by
  obtain ⟨hdraw, hport⟩ := h.unwrapping hunwrap
  exact LotFits.drawEnded (s := (s.useRes _).raiseTally .rejected) (h.useRes (h.recording_of_draw hdraw) rfl)
    rfl rfl rfl rfl rfl rfl rfl hport

theorem LotFits.acceptKey (h : LotFits s) (hunwrap : s.supply.unwrap.isSome = true) (e : KeyEntry) :
    LotFits (s.acceptKey e) := by
  obtain ⟨hdraw, hport⟩ := h.unwrapping hunwrap
  have hrec : Recording s := h.recording_of_draw hdraw
  rw [acceptKey_eq hdraw]
  refine LotFits.deliver ?_ ?_ e false
  · obtain ⟨hengine, ⟨hwaits, hempty, hidle, hring⟩, hlog⟩ := h.releaseRes.drawEnded
      (p := { s.supply with draw := none, fetchReservation := false, unwrap := none }) rfl rfl rfl rfl rfl rfl rfl hport
    exact ⟨hengine, ⟨hwaits, hempty, hidle, hring⟩, hlog⟩
  · exact hrec

/-! ## Answers to APPEND (R39, R60, R61) -/

theorem any_drop_false {records : List LogRecord} (h : records.any LogRecord.isClose = false) (k : Nat) :
    (records.drop k).any LogRecord.isClose = false :=
  List.any_eq_false.2 fun r hr => List.any_eq_false.1 h r (List.mem_of_mem_drop hr)

/-- The records behind a confirmed page (R60). -/
theorem LotFits.confirmPage (h : LotFits s) (hport : s.supply.port = .append) : LotFits s.confirmPage := by
  obtain ⟨hreserved, htransfer, hunwrap, -, -, -, hcause, hload, himage, -, -, hdraw⟩ := h.engine
  have hloading := h.not_loading (by rw [hport]; nofun)
  have hlot : HasLot s.lot.state := (h.active (.inr hport)).imp_right .inl
  have hstage : s.supply.draw ≠ some .transfer := mt htransfer.1 (by rw [hport]; nofun)
  refine ⟨⟨hreserved, iff_of_false hstage nofun, hunwrap, iff_of_false nofun nofun, iff_of_false nofun (absurd rfl),
    Nat.zero_le 2, hcause, hload, himage, iff_of_false nofun hloading, .inr (.inr (.inl rfl)), hdraw⟩,
    ⟨h.held.waits, .inl hlot, h.held.idle, h.held.ring⟩, nofun, ?_, fun hany => ?_⟩
  · show (s.log.records.drop s.pageSize).dropLast.any LogRecord.isClose = false
    rw [List.dropLast_drop_eq_drop_dropLast]
    exact any_drop_false h.log.newest _
  · refine h.log.close (Bool.of_not_eq_false fun hnone => ?_)
    have hdropped : (s.log.records.drop s.pageSize).any LogRecord.isClose = true := hany
    rw [any_drop_false hnone] at hdropped
    cases hdropped

/-- A page with the CLOSE record, which is the newest, is the whole log. -/
theorem drop_eq_nil_of_page_closes {records : List LogRecord} (h : records.dropLast.any LogRecord.isClose = false) {k : Nat}
    (hclose : (records.take k).any LogRecord.isClose = true) : records.drop k = [] := by
  refine List.drop_eq_nil_of_le (Nat.le_of_not_lt fun hk => ?_)
  obtain ⟨r, hr, hrclose⟩ := List.any_eq_true.1 hclose
  have hfront : r ∈ records.dropLast := by
    rw [List.dropLast_eq_take]
    exact (List.take_sublist_take_left (by omega)).subset hr
  exact List.any_eq_false.1 h r hfront hrclose

/-- The drained lot whose CLOSE record is confirmed holds no key, no record and no reservation (R39, R149). -/
theorem LotFits.closeLot (h : LotFits s)
    (hclose : (s.log.records.take s.pageSize).any LogRecord.isClose = true) (hdraining : s.lot.state = .draining)
    (hreservations : s.ReservationsOk) : LotFits s.confirmPage.closeLot := by
  have hany : s.log.records.any LogRecord.isClose = true := by
    obtain ⟨r, hr, hrclose⟩ := List.any_eq_true.1 hclose
    exact List.any_eq_true.2 ⟨r, List.mem_of_mem_take hr, hrclose⟩
  obtain ⟨-, ⟨hbound, hdraw, hdeque⟩, -⟩ := h.log.close hany
  have hwaits : ∀ n : Site, s.pool.waiting[n] = false := h.held.waits.resolve_left (by rw [hdraining]; nofun)
  have hreserved : s.log.reservations = 0 := by
    rw [hreservations, hbound, (waiters_eq_zero s).2 hwaits, State.draws, hdraw]
    rfl
  have hrecords : s.confirmPage.log.records = [] := drop_eq_nil_of_page_closes h.log.newest hclose
  have hfree : s.supply.fetchReservation = false := Bool.not_eq_true _ ▸ mt h.engine.reserved.1 (by rw [hdraw]; nofun)
  have hunwrap : s.supply.unwrap = none :=
    Option.not_isSome_iff_eq_none.1 (mt h.engine.unwrap.2 (by rw [hdraw]; nofun))
  have himage := h.engine.image (by rw [hdraining]; rfl)
  refine ⟨engineFits_of_quiet rfl hdraw hfree hunwrap (Nat.zero_le 2) (.inl rfl) (iff_of_false nofun (absurd rfl))
    (iff_of_false (not_not.2 (h.engine.cause_of_ne (by rw [hdraining]; nofun))) nofun)
    (absurd (h.engine.loadError_of_ne (by rw [hdraining]; nofun))) (fun _ => himage) (iff_of_false nofun nofun),
    ⟨.inr hwaits, .inr ⟨hdeque, hbound, hrecords, hreserved⟩, h.held.idle, h.held.ring⟩, logFits_nil hrecords rfl⟩

theorem LotFits.pageStored (h : LotFits s) (hport : s.supply.port = .append) (hreservations : s.ReservationsOk) :
    LotFits s.pageStored := by
  unfold State.pageStored
  split
  · next hclose => exact (h.closeLot hclose.1 hclose.2 hreservations).finish
  · exact (h.confirmPage hport).finish

theorem LotFits.pageFailed (h : LotFits s) (hport : s.supply.port = .append) : LotFits s.pageFailed := by
  unfold State.pageFailed
  split
  · next hfails =>
    have hengine := h.engine
    exact ⟨⟨hengine.reserved, hengine.transfer, hengine.unwrap, hengine.page, hengine.timer, Nat.succ_le_of_lt hfails,
      hengine.cause, hengine.loadError, hengine.image, hengine.loading, hengine.port, hengine.draw⟩, h.held, h.log.page,
      h.log.newest, h.log.close⟩
  · exact h.abandon (h.active (.inr hport)) nofun

/-! ## The reel and the resets (R22, R30, R50, R51) -/

/-- The reel debouncer is not the lot's matter. -/
theorem LotFits.setReelDebouncer (h : LotFits s) (d : ReelDebouncer) :
    LotFits { s with supply := { s.supply with debouncer := d } } :=
  have ⟨hreserved, htransfer, hunwrap, hpage, htimer, hfailures, hcause, hload, himage, hloading, hport, hdraw⟩ := h.engine
  ⟨⟨hreserved, htransfer, hunwrap, hpage, htimer, hfailures, hcause, hload, himage, hloading, hport, hdraw⟩, h.held,
    h.log.page, h.log.newest, h.log.close⟩

theorem lotFits_resetBy (s : State) (c : ResetCause) : LotFits (s.resetBy c) := by
  have hbound : (s.resetBy c).bindings = 0 := (bindings_eq_zero _).2 fun n => by
    show (Vector.replicate 8 SiteContext.default)[n].binding = none
    rw [perSite_replicate]
    rfl
  unfold LotFits
  rw [hbound]
  refine ⟨engineFits_of_quiet rfl rfl rfl rfl (Nat.zero_le 2) (.inl rfl) (iff_of_false nofun (absurd rfl))
    (iff_of_false (absurd rfl) nofun) (absurd rfl) nofun (iff_of_false nofun nofun),
    ⟨.inr fun n => perSite_replicate false n, .inr ⟨rfl, rfl, rfl, rfl⟩, .inr rfl, ?_⟩, logFits_nil rfl rfl⟩
  exact (by decide : ([0, 1, 2, 3, 4, 5, 6, 7] : List Site).Nodup ∧ ∀ n : Site, n ∈ ([0, 1, 2, 3, 4, 5, 6, 7] : List Site))

/-- Another order of all sites (R76). -/
theorem LotFits.setRing (h : LotFits s) {ring : List Site} (hring : ring.Nodup ∧ ∀ n : Site, n ∈ ring) :
    LotFits { s with pool := { s.pool with ring := ring } } :=
  ⟨h.engine, ⟨h.held.waits, h.held.empty, h.held.idle, hring⟩, h.log⟩

end Sys2Proof.Machine.LotCoherence
end

section
/-! Requests and outcomes keep sites and lots coherent (R4 to R13, R68 to R99). -/

namespace Sys2Proof.Machine.Coherence

open LotStates ReelSupply SiteEngine SiteCoherence LotCoherence ClaimWords

/-- Sites, lanes and timers fit together, and so do the lot, the port, the pool and the log. -/
structure Sound (s : State) : Prop where
  sites : SitesFit s
  lot : LotFits s

/-- The same while an event at site `n` is at work, whose lane may yet end what it carries. -/
structure AtWork (s : State) (n : Site) : Prop where
  landed : Landed s n
  lot : LotFits s

variable {s u : State} {n : Site}

theorem sound_of_coherent (h : s.Coherent) : Sound s := ⟨sitesFit_of_coherent h, lotFits_of_coherent h⟩

theorem Sound.finish (h : Sound s) : Sound s.finish := ⟨h.sites.finish, h.lot.finish⟩

theorem AtWork.finish (h : AtWork s n) : AtWork s.finish n := ⟨h.landed.finish, h.lot.finish⟩

theorem Sound.answer (h : Sound s) (st : Status) (d : Option Word) : Sound (s.answer n st d) := ⟨h.sites, h.lot⟩

theorem Sound.raiseExc (h : Sound s) (k : ExcKind) : Sound (s.raiseExc n k) := ⟨h.sites, h.lot⟩

theorem AtWork.forward (h : AtWork s n) (t : Transaction) (d : Option Word) : Sound (s.forward n t d) :=
  ⟨h.landed.forward t d, h.lot⟩

theorem AtWork.setLane (h : AtWork s n) {l : Lane} (hl : l.Ok) (hheld : l.state ≠ .held) : Sound (s.setLane n l) :=
  ⟨h.landed.setLane hl hheld, h.lot⟩

theorem Sound.atWork_of_idle (h : Sound s) (hidle : s.lanes[n].state = .idle) : AtWork s n :=
  ⟨h.sites.landed_idle hidle, h.lot⟩

/-- What changes no work of the part. -/
theorem Sound.window (h : Sound s) (hu : WindowOnly s u) : Sound u := by
  obtain ⟨hsites, hlot⟩ := h
  have hwork := hu.work
  simp only [work, Work.mk.injEq] at hwork
  obtain ⟨hl, hsupply, hpool, hs, htimers, hlanes, hlog, -, -⟩ := hwork
  refine ⟨?_, ?_⟩
  · rw [SitesFit, hs, htimers, hlanes, hpool]
    exact hsites
  · rw [LotFits, State.bindings, hl, hsupply, hpool, hs, hlog]
    exact hlot

/-- A site context and its timers replaced at the site at work, with a key where there was one. -/
theorem AtWork.setSite_setTimers (h : AtWork s n) {c : SiteContext} {t : SiteTimers} (hkeys : KeyFits c t)
    (hlanded : ∀ b ∈ c.binding, b.inFlight = none) (hkeyWait : t.keyWait = s.timers[n].keyWait)
    (hbinding : c.binding = s.sites[n].binding) : AtWork ((s.setSite n c).setTimers n t) n :=
  ⟨h.landed.setSite_setTimers hkeys hlanded hkeyWait, h.lot.setSite (by rw [hbinding]; exact id)⟩

theorem AtWork.setSite (h : AtWork s n) {c : SiteContext} (hkeys : KeyFits c s.timers[n])
    (hlanded : ∀ b ∈ c.binding, b.inFlight = none)
    (hbinding : c.binding.isSome = true → s.sites[n].binding.isSome = true) : AtWork (s.setSite n c) n :=
  ⟨h.landed.setSite hkeys hlanded, h.lot.setSite hbinding⟩

/-! ## STAGE and ARM writes (R68 to R70, R85 to R93) -/

theorem Sound.bindClaim (h : Sound s) (hidle : s.lanes[n].state = .idle) (hready : s.sites[n].state = .ready)
    (hopened : s.lot.state = .opened) {t : Transaction} (ht : t.kind = .write ∧ t.role = .stage) :
    Sound (s.bindClaim n t) := by
  have hlanded : Landed s n := h.sites.landed_idle hidle
  have hring := h.lot.held.ring
  unfold State.bindClaim
  split
  · exact h.answer .retry none
  · split
    · next e rest hdeque =>
      have hnobody := h.lot.held.idle.resolve_right (by rw [hdeque]; exact List.cons_ne_nil e rest)
      exact Sound.finish
        ⟨Landed.bindKey_forward (s := State.lend { s with pool := { s.pool with deque := rest } }) hlanded hready e
            (x := { t with observed := true }) ht.2 rfl rfl (some e.key[t.stageOffset]),
          h.lot.of_opened hopened rfl rfl rfl hring (.inl hnobody)⟩
    · next hdeque =>
      split
      · exact Sound.finish
          ⟨Landed.startWaiting (s := s.lend) hlanded hready s.image.keyWaitLimit (t := { t with observed := true }) ht,
            h.lot.of_opened hopened rfl rfl rfl hring (.inr hdeque)⟩
      · have hlent : LotFits ((s.raiseExc n .keyless).lend) := h.lot.of_opened hopened rfl rfl rfl hring h.lot.held.idle
        have hraised : Landed ((s.raiseExc n .keyless).lend) n := hlanded
        split
        · exact Sound.finish (AtWork.forward
            ⟨hraised.blank hready, hlent.blank (hlent.recording_of_opened hopened)⟩ _ _)
        · exact Sound.finish ⟨h.sites, hlent.releaseRes⟩

theorem Sound.refuseOrder (h : Sound s) : Sound (s.refuseOrder n) := ⟨h.sites, h.lot⟩

theorem Sound.bindTrigger (h : Sound s) (hidle : s.lanes[n].state = .idle) (hready : s.sites[n].state = .ready)
    {t : Transaction} (ht : t.kind = .write ∧ t.role = .stage) : Sound (s.bindTrigger n t) := by
  unfold State.bindTrigger
  split
  · exact h.refuseOrder
  · split
    · exact ⟨h.sites, h.lot⟩
    · next hopened => exact h.bindClaim hidle hready (by simpa using hopened) ht

theorem Sound.stageWrite (h : Sound s) (hidle : s.lanes[n].state = .idle) {t : Transaction}
    (ht : t.kind = .write ∧ t.role = .stage) : Sound (s.stageWrite n t) := by
  have hwork : AtWork s n := h.atWork_of_idle hidle
  unfold State.stageWrite
  split
  · next hready => exact h.bindTrigger hidle hready ht
  · next hstaging =>
    split
    · exact h.refuseOrder
    · next b hb =>
      exact ⟨hwork.landed.inFlight_forward hb hstaging (x := { t with observed := true }) ht.2 rfl _,
        h.lot.setSite (by rw [hb]; exact fun _ => rfl)⟩
  · exact hwork.forward _ _
  iterate 4 exact h.refuseOrder
  · exact h.answer .detached none

theorem Sound.armWrite (h : Sound s) (hidle : s.lanes[n].state = .idle) (t : Transaction) : Sound (s.armWrite n t) := by
  have hwork : AtWork s n := h.atWork_of_idle hidle
  unfold State.armWrite
  split
  · next hadmitted =>
    obtain ⟨hstaging, ⟨b, hb, hset⟩, -⟩ := (armAdmitted_iff s n).1 hadmitted
    have harmed := hwork.landed.keys.arm hstaging hb ((binding_complete_iff b).2 hset) (hwork.landed.landed b hb)
      s.image.watchdogLimit
    exact (hwork.setSite_setTimers harmed hwork.landed.landed rfl rfl).forward _ _
  · exact h.refuseOrder

/-- A request by its role at an IDLE lane (R9 to R11). -/
theorem Sound.byRole (h : Sound s) (hidle : s.lanes[n].state = .idle) (t : Transaction) (data : Word) :
    Sound (s.byRole n t data) := by
  have hwork : AtWork s n := h.atWork_of_idle hidle
  unfold State.byRole
  split
  · exact hwork.forward _ _
  · exact ⟨h.sites, h.lot⟩
  iterate 3 split <;> exact hwork.forward _ _
  · next hrole =>
    split
    · exact h.answer .ok _
    · next hkind => exact h.stageWrite hidle ⟨hkind, hrole⟩
  · split
    · exact hwork.forward _ _
    · split
      · exact h.armWrite hidle t
      · exact hwork.forward _ _
  · exact h.answer .refused none

theorem Sound.byLot (h : Sound s) (hidle : s.lanes[n].state = .idle) (k : Kind) (a d : Address) (data : Word) :
    Sound (s.byLot n k a d data) := by
  unfold State.byLot
  split
  · exact (h.atWork_of_idle hidle).forward _ _
  · exact h.answer .retry none
  all_goals exact h.byRole hidle _ data

/-! ## Outcomes (R83 to R99) -/

/-- No key word is in flight on a lane whose transaction is not an observed STAGE write for its offset. -/
theorem Sound.atWork_of_transaction (h : Sound s) (hout : s.lanes[n].state = .outbound) {t : Transaction}
    (ht : s.lanes[n].transaction = some t)
    (hnot : ∀ b ∈ s.sites[n].binding, b.inFlight = some t.stageOffset → ¬ (t.role = .stage ∧ t.observed = true)) :
    AtWork s n := by
  refine ⟨h.sites.landed (h.sites.not_waiting_of_lane (by rw [hout]; nofun)) fun b hb => ?_, h.lot⟩
  refine Option.eq_none_iff_forall_not_mem.2 fun o ho => ?_
  obtain ⟨-, hflight⟩ := (h.sites n).flight b hb o ho
  obtain ⟨hrole, hobserved, hoffset⟩ := hflight t ht
  exact hnot b hb (by rw [hoffset]; exact ho) ⟨hrole, hobserved⟩

theorem AtWork.identOutcome (h : AtWork s n) (offset : Nat) (o : DieOutcome) : AtWork (s.identOutcome n offset o) n := by
  unfold State.identOutcome
  split
  · exact h.setSite (h.landed.keys.congr rfl rfl rfl (.inr rfl)) h.landed.landed id
  · exact h

/-- The outcome of the word in flight leaves none (R89). -/
theorem Sound.stageOutcome (h : Sound s) (hout : s.lanes[n].state = .outbound) {t : Transaction}
    (ht : s.lanes[n].transaction = some t) (o : DieOutcome) : AtWork (s.stageOutcome n (t.offset.getD 0) o) n := by
  unfold State.stageOutcome
  split
  · next hnone => exact h.atWork_of_transaction hout ht fun b hb => by cases hnone.symm.trans hb
  · next b hb =>
    split
    · next hflight =>
      have hkeys := (h.sites n).toKeyFits
      have hstaging := hkeys.staging_of_inFlight hb (by rw [hflight]; nofun)
      have hwaits := h.sites.not_waiting_of_lane (by rw [hout]; nofun)
      refine ⟨h.sites.landed_setSite hwaits (hkeys.stageOutcome hb hstaging _ o) fun b' hb' => ?_,
        h.lot.setSite (by rw [hb]; exact fun _ => rfl)⟩
      cases hb'
      exact stageOutcome_inFlight_none b _ o
    · next hother =>
      exact h.atWork_of_transaction hout ht fun b' hb' hflight => by
        cases hb.symm.trans hb'
        exact absurd hflight hother

theorem AtWork.backToStaging (h : AtWork s n) (harmed : s.sites[n].state = .armed) : AtWork (s.backToStaging n) n :=
  h.setSite_setTimers (h.landed.keys.backToStaging harmed s.image.dwellLimit) h.landed.landed rfl rfl

theorem AtWork.armOutcome (h : AtWork s n) (o : DieOutcome) : AtWork (s.armOutcome n o) n := by
  by_cases harmed : s.sites[n].state = .armed
  · have hcounted : AtWork (s.setSite n { s.sites[n] with attempts := s.sites[n].attempts + 1 }) n :=
      h.setSite (h.landed.keys.congr rfl rfl rfl (.inr rfl)) h.landed.landed id
    unfold State.armOutcome
    rw [harmed]
    cases o with
    | nak => exact h.backToStaging harmed
    | ok data => exact hcounted
    | timeout => exact hcounted
  · rw [armOutcome_of_ne_armed harmed]
    exact h

theorem AtWork.statusOutcome (h : AtWork s n) (hs : SitesFit s) (o : DieOutcome) : AtWork (s.statusOutcome n o) n := by
  unfold State.statusOutcome
  split
  · next harmed =>
    have hestablished := h.landed.keys.established (by rw [harmed]; nofun)
    split
    · exact h.setSite_setTimers (h.landed.keys.programmed harmed) h.landed.landed rfl rfl
    · split
      · unfold State.statusFail
        split
        · exact h.backToStaging harmed
        · have hkeyed : Keyed (s.setSite n { s.sites[n] with suspect := false }) n :=
            (hs.keyed (by rw [harmed]; rfl)).setSite rfl
          have hcleared : LotFits (s.setSite n { s.sites[n] with suspect := false }) := h.lot.setSite id
          exact AtWork.finish ⟨hkeyed.spoil .burn rfl (contact_iff (x := .fault) nofun hestablished),
            hcleared.spoil .burn .fault⟩
      · exact h
  · exact h

theorem AtWork.checkOutcome (h : AtWork s n) (hs : SitesFit s) (offset : Nat) (o : DieOutcome) :
    AtWork (s.checkOutcome n offset o) n := by
  unfold State.checkOutcome
  split
  · next b data hprogrammed hb =>
    have hestablished := h.landed.keys.established (by rw [hprogrammed]; nofun)
    have hkeyed : ∀ c, Keyed (s.setSite n { s.sites[n] with capture := c }) n := fun _ =>
      (hs.keyed (by rw [hprogrammed]; rfl)).setSite rfl
    have hcaptured : ∀ c, LotFits (s.setSite n { s.sites[n] with capture := c }) := fun _ => h.lot.setSite id
    unfold State.compareCheck
    split
    · split
      · exact AtWork.finish ⟨(hkeyed _).commit hestablished, (hcaptured _).commit⟩
      · exact AtWork.finish
          ⟨(hkeyed _).spoil .mismatch rfl (contact_iff (x := .fault) nofun hestablished),
            (hcaptured _).spoil .mismatch .fault⟩
    · exact h.setSite (h.landed.keys.congr rfl rfl rfl (.inl hprogrammed)) h.landed.landed id
  · exact h

/-- The outcome of an observed transaction on its OUTBOUND lane leaves no key word in flight. -/
theorem Sound.outcome (h : Sound s) (hout : s.lanes[n].state = .outbound) {t : Transaction}
    (ht : s.lanes[n].transaction = some t) (o : DieOutcome) : AtWork (s.outcome n t o) n := by
  have hother : t.role ≠ .stage → AtWork s n := fun hrole =>
    h.atWork_of_transaction hout ht fun _ _ _ hstage => hrole hstage.1
  unfold State.outcome
  split
  · unfold State.outcomeByRole
    split
    · next hrole => exact (hother (by rw [hrole]; nofun)).identOutcome _ o
    · exact h.stageOutcome hout ht o
    · next hrole =>
      split
      · exact (hother (by rw [hrole]; nofun)).armOutcome o
      · exact hother (by rw [hrole]; nofun)
    · next hrole => exact (hother (by rw [hrole]; nofun)).statusOutcome h.sites o
    · next hrole => exact (hother (by rw [hrole]; nofun)).checkOutcome h.sites _ o
    all_goals next hrole => exact hother (by rw [hrole]; nofun)
  · next hlot =>
    refine h.atWork_of_transaction hout ht fun b hb => ?_
    have hnone := (h.lot.keyless fun hhas => hlot ?_).1 n
    · cases hnone.symm.trans hb
    · rcases hhas with hhas | hhas | hhas <;> rw [hhas] <;> rfl

/-- Whether or not the transaction is observed. -/
theorem Sound.outcome_of_observed (h : Sound s) (hout : s.lanes[n].state = .outbound) {t : Transaction}
    (ht : s.lanes[n].transaction = some t) (o : DieOutcome) :
    AtWork (if t.observed then s.outcome n t o else s) n := by
  split
  · exact h.outcome hout ht o
  · next hobserved => exact h.atWork_of_transaction hout ht fun _ _ _ hstage => hobserved hstage.2

theorem Sound.endTransaction (h : Sound s) (hout : s.lanes[n].state = .outbound) {t : Transaction}
    (ht : s.lanes[n].transaction = some t) (st : Status) (data : Word) : Sound (s.endTransaction n t st data) :=
  have hended := h.outcome_of_observed hout ht (dieOutcome t.kind st data)
  AtWork.setLane (s := State.answer (if t.observed then s.outcome n t (dieOutcome t.kind st data) else s) n st
    (upstreamData t st data)) ⟨hended.landed, hended.lot⟩ idle_ok nofun

end Sys2Proof.Machine.Coherence
end

section
/-! Contact, expiries, commands, the reel and the resets keep sites and lots coherent, and so does every step (R14, R15, R18,
R22, R29 to R63, R103 to R124, R174). -/

namespace Sys2Proof.Machine.Coherence

open LotStates ReelSupply SiteEngine SiteCoherence LotCoherence ClaimWords LotAccounting

variable {s u : State} {n : Site}

theorem Sound.ite_of (h : Sound s) {c : Prop} [Decidable c] (hu : c → Sound u) : Sound (if c then u else s) := by
  split
  · next hc => exact hu hc
  · exact h

/-! ## Contact (R18, R104, R105, R115) -/

theorem Sound.establish (h : Sound s) (hn : s.timers[n].debouncer ≠ .established) : Sound (s.establish n) := by
  have hvacant := (h.sites n).contact.2 hn
  have hbinding := (h.sites n).binding_none (by rw [hvacant]; rfl)
  refine ⟨h.sites.establish hn, LotFits.setSite (s := s.setTimers n _) h.lot ?_⟩
  exact fun hbound => absurd hbound (by rw [SiteContext.default]; nofun)

theorem Sound.setDebouncer (h : Sound s) (hn : s.timers[n].debouncer ≠ .established) {d : Debouncer}
    (hd : d ≠ .established) : Sound (s.setTimers n { s.timers[n] with debouncer := d }) :=
  ⟨h.sites.setDebouncer hn hd, h.lot⟩

theorem lotFits_contactLost (h : LotFits s) : LotFits (contactLost s n) := by
  unfold SiteCoherence.contactLost State.laneLoss
  split <;> exact h

theorem lotFits_vacate (h : LotFits s) : LotFits (s.vacate n) := h.setSite id

/-- A lost contact at a site without a key that does not wait. -/
theorem Sound.vacate_contactLost (h : Sound s) (hkeyless : s.sites[n].state.holdsKey = false)
    (hn : s.pool.waiting[n] = false) : Sound ((contactLost s n).vacate n) := by
  obtain ⟨hsites, hpool, -, -, -, htimers⟩ := contactLost_frame s n
  refine ⟨h.sites.lose hkeyless ((h.sites n).keyWait_stopped hn) ?_ htimers (contactLost_lanes (h.sites n).lane)
    (fun m _ => ?_) ?_, lotFits_vacate (lotFits_contactLost h.lot)⟩
  · rw [State.vacate_sites, hsites]
  · rw [State.vacate_pool, hpool]
  · rw [State.vacate_pool, hpool]
    exact hn

theorem Sound.siteLoss (h : Sound s) : Sound ((contactLost s n).siteLoss n) := by
  obtain ⟨hsites, hpool, -, -, -, htimers⟩ := contactLost_frame s n
  have hlanes := contactLost_lanes (h.sites n).lane
  have hlot : LotFits (contactLost s n) := lotFits_contactLost h.lot
  have hdisposed : s.sites[n].state.holdsKey = true → Keyed (contactLost s n) n ∧
      ∀ x : SiteState, x = .vacant → (x = .vacant ↔ (contactLost s n).timers[n].debouncer ≠ .established) := fun hstate =>
    have ⟨hkeyed, hlost⟩ := h.sites.keyed_contactLost hstate
    ⟨hkeyed, fun _ hx => iff_of_true hx hlost⟩
  have hkeyless : s.sites[n].state.holdsKey = false → s.sites[n].state ≠ .ready → Sound ((contactLost s n).vacate n) :=
    fun hstate hready => h.vacate_contactLost hstate ((h.sites n).not_waiting hready)
  unfold State.siteLoss
  rw [hsites]
  split
  iterate 4 next hstate => exact hkeyless (by rw [hstate]; rfl) (by rw [hstate]; nofun)
  · next hready =>
    have hstate : s.sites[n].state.holdsKey = false := by rw [hready]; rfl
    rw [hpool]
    split
    · next hn =>
      refine Sound.finish ⟨h.sites.lose (k := .stopped) hstate rfl ?_ ?_ hlanes (fun m hm => ?_) ?_,
        lotFits_vacate (s := State.releaseRes _) (LotFits.releaseRes (s := ((contactLost s n).setWaiting n
          false).stopKeyWait n) hlot.unsetWaiting)⟩
      · show (contactLost s n).sites.set n { (contactLost s n).sites[n] with state := .vacant } = _
        rw [hsites]
      · show (contactLost s n).timers.set n { (contactLost s n).timers[n] with keyWait := .stopped } = _
        rw [htimers, perSite_set_self, Vector.set_set]
      · show ((contactLost s n).pool.waiting.set n false)[m] = _
        rw [perSite_set_ne _ _ hm, hpool]
      · exact perSite_set_self _ _ _
    · next hn => exact h.vacate_contactLost hstate (Bool.not_eq_true _ ▸ hn)
  · next hstaging =>
    obtain ⟨hkeyed, hlost⟩ := hdisposed (by rw [hstaging]; rfl)
    exact Sound.finish ⟨hkeyed.endStaging .lift rfl rfl ⟨hlost _ rfl, hlost _ rfl⟩, hlot.endStaging .lift _ _⟩
  all_goals
    next hstate =>
      obtain ⟨hkeyed, hlost⟩ := hdisposed (by rw [hstate]; rfl)
      exact Sound.finish ⟨hkeyed.spoil_sitesFit .lift rfl (hlost _ rfl), hlot.spoil .lift _⟩

/-! ## Expiries and the tick (R14, R15, R111, R118, R121, R124) -/

theorem Sound.keyWaitExpired (h : Sound s) (hn : s.pool.waiting[n] = true) : Sound (s.keyWaitExpired n) := by
  have hlanded : Landed (((s.stopKeyWait n).setWaiting n false).raiseExc n .keyless) n := h.sites.unwait hn
  have hlot : LotFits (((s.stopKeyWait n).setWaiting n false).raiseExc n .keyless) :=
    LotFits.unsetWaiting (s := s.stopKeyWait n) h.lot
  have hrec : Recording (((s.stopKeyWait n).setWaiting n false).raiseExc n .keyless) := h.lot.recording_of_waiting hn
  unfold State.keyWaitExpired
  rw [if_pos hn]
  dsimp only
  split
  · exact Sound.finish (AtWork.forward ⟨hlanded.blank ((h.sites n).ready hn), hlot.blank hrec⟩ _ _)
  · exact Sound.finish ⟨Landed.setLane_idle (s := State.answer (State.releaseRes _) n .refused) hlanded, hlot.releaseRes⟩

theorem Sound.dwellExpired (h : Sound s) (hstaging : s.sites[n].state = .staging) : Sound (s.dwellExpired n) := by
  have hkeyed : Keyed (s.stopBurnTimers n) n := (h.sites.keyed (by rw [hstaging]; rfl)).stopBurnTimers
  have hcontact : (s.stopBurnTimers n).timers[n].debouncer = .established := by
    rw [stopBurnTimers_debouncer]
    exact (h.sites n).established (by rw [hstaging]; nofun)
  exact Sound.finish ⟨hkeyed.endStaging .dwell rfl rfl
      ⟨contact_iff (x := .fault) nofun hcontact, contact_iff (x := .ready) nofun hcontact⟩,
    LotFits.endStaging (s := s.stopBurnTimers n) h.lot .dwell _ _⟩

theorem Sound.watchdogExpired (h : Sound s) (harmed : s.sites[n].state = .armed) : Sound (s.watchdogExpired n) := by
  have hkeyed : Keyed (s.stopBurnTimers n) n := (h.sites.keyed (by rw [harmed]; rfl)).stopBurnTimers
  have hcontact : (s.stopBurnTimers n).timers[n].debouncer = .established := by
    rw [stopBurnTimers_debouncer]
    exact (h.sites n).established (by rw [harmed]; nofun)
  exact Sound.finish ⟨hkeyed.spoil_sitesFit .stall rfl (contact_iff (x := .fault) nofun hcontact),
    LotFits.spoil (s := s.stopBurnTimers n) h.lot .stall _⟩

theorem quarantine_ok (limit : Nat) : (⟨.quarantine, .running 0 limit, none⟩ : Lane).Ok :=
  ⟨iff_of_false nofun fun h => h.elim nofun nofun, iff_of_true rfl (.inr rfl), nofun⟩

/-- The transaction of an OUTBOUND lane (R2). -/
theorem Sound.exists_transaction (h : Sound s) (hout : s.lanes[n].state = .outbound) :
    ∃ t, s.lanes[n].transaction = some t :=
  Option.isSome_iff_exists.1 ((h.sites n).lane.1.2 (.inl hout))

theorem Sound.responseExpired (h : Sound s) (hout : s.lanes[n].state = .outbound) : Sound (s.responseExpired n) := by
  obtain ⟨t, ht⟩ := h.exists_transaction hout
  have hraised : Sound ((s.answer n .timeout).raiseExc n .timeout) := ⟨h.sites, h.lot⟩
  have hended := hraised.outcome_of_observed hout ht .timeout
  unfold State.responseExpired
  rw [ht]
  exact hended.setLane (quarantine_ok _) nofun

theorem Sound.quietExpired (h : Sound s) (hquiet : s.lanes[n].state = .quarantine) : Sound (s.quietExpired n) :=
  ⟨(h.sites.landed_of_lane (by rw [hquiet]; nofun) (by rw [hquiet]; nofun)).setLane_idle, h.lot⟩

theorem Sound.expireAt (h : Sound s) (n : Site) : Sound (s.expireAt n) := by
  unfold State.expireAt
  extract_lets s1 s2 s3 s4
  have h1 : Sound s1 := h.ite_of fun hreached => h.establish (ne_established_of_reached hreached)
  have h2 : Sound s2 := h1.ite_of fun hreached =>
    h1.keyWaitExpired ((h1.sites n).keyWait.1 (isRunning_of_reached hreached))
  have h3 : Sound s3 := h2.ite_of fun hreached => h2.dwellExpired ((h2.sites n).dwell.1 (isRunning_of_reached hreached))
  have h4 : Sound s4 := h3.ite_of fun hreached =>
    h3.watchdogExpired ((h3.sites n).watchdog.1 (isRunning_of_reached hreached))
  clear_value s4
  refine h4.ite_of fun _ => ?_
  split
  · next hout => exact h4.responseExpired hout
  · next hquiet => exact h4.quietExpired hquiet
  · exact h4
  · exact h4

theorem Sound.expireAll (h : Sound s) (sites : List Site) : Sound (sites.foldl State.expireAt s) := by
  induction sites generalizing s with
  | nil => exact h
  | cons n sites ih => exact ih (h.expireAt n)

theorem Sound.tick (h : Sound s) : Sound ((List.finRange 8).foldl State.expireAt s.countTick) :=
  Sound.expireAll ⟨h.sites.countTick, h.lot⟩ _

/-! ## Commands (R29, R35, R76, R103) -/

theorem Sound.enterLoading (h : Sound s) (hlot : s.lot.state = .unloaded ∨ s.lot.state = .closed) :
    Sound s.enterLoading := by
  refine ⟨?_, h.lot.enterLoading hlot⟩
  by_cases hclosed : s.lot.state = .closed
  · obtain ⟨hkeys, hwaits⟩ := h.lot.keyless (not_hasLot (.inr (.inr hclosed)))
    rw [enterLoading_of_closed hclosed]
    exact SitesFit.retime (s := { s with lot := _, supply := _, sent := _ }) h.sites hkeys hwaits
  · rw [enterLoading_of_ne_closed hclosed]
    exact h.sites

/-- A failed load, or a reel gone, in UNLOADED and CLOSED, whose port is FREE (R29, R30). -/
theorem Sound.failLoad (h : Sound s) (hlot : s.lot.state = .unloaded ∨ s.lot.state = .closed) (e : LoadError) :
    Sound (s.failLoad e) := by
  refine ⟨h.sites, ?_⟩
  have hfailed := h.lot.failLoad (hlot.imp_right .inr) e
  rw [h.lot.freePort_eq (h.lot.port_free hlot)] at hfailed
  exact hfailed

theorem Sound.retime (h : Sound s) (hlot : NoLot s.lot.state) : Sound s.retime := by
  obtain ⟨hkeys, hwaits⟩ := h.lot.keyless (not_hasLot hlot)
  exact ⟨h.sites.retime hkeys hwaits, h.lot.retime⟩

theorem Sound.cmdLoad (h : Sound s) : Sound (s.cmdLoad n) := by
  unfold State.cmdLoad
  split
  · next hlot =>
    split
    · exact (h.enterLoading (.inl hlot)).answer .ok none
    · exact (h.failLoad (.inl hlot) .reel).answer .ok none
  · next hlot =>
    split
    · exact (h.enterLoading (.inr hlot)).answer .ok none
    · exact ((h.failLoad (.inr hlot) .reel).retime (.inl rfl)).answer .ok none
  all_goals exact h.answer .refused none

theorem Sound.cmdClose (h : Sound s) : Sound (s.cmdClose n) := by
  unfold State.cmdClose
  split
  · next hopened =>
    have hsites := h.sites.leaveOpen
    have hlot := h.lot.close hopened
    generalize s.leaveOpen = u at hsites hlot ⊢
    exact Sound.finish ⟨hsites, hlot⟩
  · exact h.answer .refused none

/-- A command with a site argument. -/
theorem Sound.withSiteArg (h : Sound s) (arg : Byte) {f : Site → State} (hf : ∀ m, Sound (f m)) :
    Sound (s.withSiteArg n arg f) := by
  unfold State.withSiteArg
  split
  · split
    · exact hf _
    · exact h.answer .refused none
  · exact h.answer .refused none

theorem Sound.spoil (h : Sound s) (hstate : s.sites[n].state.holdsKey = true) (r : SpoilReason) {next : SiteState}
    (hnext : next.holdsKey = false) (hnotVacant : next ≠ .vacant) : Sound (s.spoil n r next) := by
  have hcontact := (h.sites n).established fun hvacant => by rw [hvacant] at hstate; cases hstate
  exact ⟨(h.sites.keyed hstate).spoil_sitesFit r hnext (contact_iff hnotVacant hcontact), h.lot.spoil r next⟩

theorem Sound.releaseSite (h : Sound s) (m : Site) : Sound (s.releaseSite n m) := by
  unfold State.releaseSite
  split
  · exact h.answer .refused none
  · exact h.answer .refused none
  · split
    · next hm =>
      exact Sound.finish (Sound.answer ⟨h.sites.dropHeld hm .refused, h.lot.dropHeld .refused⟩ .ok none)
    · exact h.answer .refused none
  · next hstaging =>
    have hcontact := (h.sites m).established (by rw [hstaging]; nofun)
    have hended := (h.sites.keyed (n := m) (by rw [hstaging]; rfl)).endStaging .release (spoiled := .finished)
      (returned := .ready) rfl rfl ⟨contact_iff (x := .finished) nofun hcontact, contact_iff (x := .ready) nofun hcontact⟩
    exact Sound.finish (Sound.answer ⟨hended, h.lot.endStaging .release _ _⟩ .ok none)
  iterate 2
    next hstate =>
      have hset := h.sites.setKeyless (n := m) (next := .finished) (by rw [hstate]; rfl) (by rw [hstate]; nofun)
        (by rw [hstate]; nofun) rfl nofun
      exact Sound.answer ⟨hset, h.lot.setSite id⟩ .ok none
  all_goals
    next hstate =>
      exact Sound.finish (Sound.answer (h.spoil (by rw [hstate]; rfl) .release (next := .finished) rfl nofun) .ok none)

theorem Sound.cmdRelease (h : Sound s) (arg : Byte) : Sound (s.cmdRelease n arg) := h.withSiteArg arg h.releaseSite

theorem Sound.cmdLowest (h : Sound s) (arg : Byte) : Sound (s.cmdLowest n arg) :=
  h.withSiteArg arg fun m => Sound.answer (s := { s with pool := { s.pool with ring := lowestRing m } })
    ⟨h.sites, h.lot.setRing (lowestRing_order m)⟩ .ok none

theorem Sound.request (h : Sound s) (k : Kind) (a : Address) (data : Word) : Sound (s.request n k a data) :=
  request_induct (fun _ => h.window) h.cmdLoad h.cmdClose h.cmdRelease h.cmdLowest (fun hidle => h.byLot hidle) k a data

theorem Sound.claimWrite (h : Sound s) (word : Fin 16) (data : Word) : Sound (s.claimWrite n word data) :=
  claimWrite_induct (fun _ => h.window) h.cmdLoad h.cmdClose h.cmdRelease h.cmdLowest word data

theorem Sound.onIdleLane (h : Sound s) (hu : Sound u) : Sound (s.onIdleLane n u) := by
  unfold State.onIdleLane
  split
  · exact hu
  · exact h.window (windowOnly_busy s n)

/-! ## The reel's rows (R30, R31, R33, R46 to R63) -/

theorem Sound.halt_finish (h : Sound s) (hactive : s.lot.state = .opened ∨ s.lot.state = .draining) {c : HaltCause}
    (hc : c ≠ .none) : Sound (s.halt c).finish :=
  Sound.finish ⟨h.sites.halt c, h.lot.halt hactive hc⟩

/-- A fatal supply failure that frees the port first. -/
theorem Sound.abandon (h : Sound s) (hactive : s.lot.state = .opened ∨ s.lot.state = .draining) {c : HaltCause}
    (hc : c ≠ .none) : Sound (s.freePort.halt c).finish := by
  rw [freePort_halt hactive]
  exact h.halt_finish hactive hc

theorem Sound.imageArrived (h : Sound s) (hport : s.supply.port = .image) (bytes : Vector Byte 128) (tagPasses : Bool) :
    Sound (s.imageArrived bytes tagPasses) := by
  refine ⟨?_, h.lot.imageArrived hport bytes tagPasses⟩
  obtain ⟨-, hwaits⟩ := h.lot.keyless (not_hasLot (.inr (.inl (h.lot.engine.loading.1 hport))))
  unfold State.imageArrived
  split
  · split
    · next im _ => exact (h.sites.lotOpen hwaits im).finish
    · exact h.sites
  · exact h.sites

theorem Sound.pageStored (h : Sound s) (hport : s.supply.port = .append) (hreservations : s.ReservationsOk) :
    Sound s.pageStored := by
  have hsites : SitesFit s.confirmPage := h.sites
  refine ⟨?_, h.lot.pageStored hport hreservations⟩
  unfold State.pageStored
  split
  · exact SitesFit.finish (s := s.confirmPage.closeLot) hsites
  · exact hsites.finish

theorem Sound.pageFailed (h : Sound s) (hport : s.supply.port = .append) : Sound s.pageFailed := by
  refine ⟨?_, h.lot.pageFailed hport⟩
  unfold State.pageFailed
  split
  · exact h.sites
  · exact (SitesFit.halt (s := s.freePort) h.sites .appendFail).finish

/-- A listed answer to the operation on the port (R46). -/
theorem Sound.takeAnswer (h : Sound s) (hreservations : s.ReservationsOk) {answer : ReelAnswer}
    (hport : answerPort answer = s.supply.port) (tagPasses : Bool) : Sound (s.takeAnswer tagPasses answer) := by
  cases answer with
  | image bytes => exact h.imageArrived hport.symm bytes tagPasses
  | absent =>
    exact ⟨h.sites, h.lot.failLoad (.inr (.inl (h.lot.engine.loading.1 hport.symm))) .absent⟩
  | record bytes =>
    exact ⟨SitesFit.finish (s := { s.freePort with supply := _ }) h.sites, h.lot.recordArrived hport.symm bytes⟩
  | endOfReel =>
    have hended : SitesFit s.freePort.endDraw := h.sites.freePort.endDraw
    exact ⟨SitesFit.finish (s := { s.freePort.endDraw with supply := _ }) hended, h.lot.reelEnded hport.symm⟩
  | appendOk => exact h.pageStored hport.symm hreservations
  | appendFail => exact h.pageFailed hport.symm
  | appendFull => exact h.abandon (h.lot.active (.inr hport.symm)) nofun

theorem Sound.acceptKey (h : Sound s) (hunwrap : s.supply.unwrap.isSome = true) (e : KeyEntry) :
    Sound (s.acceptKey e) := by
  refine ⟨?_, h.lot.acceptKey hunwrap e⟩
  rw [acceptKey_eq (h.lot.unwrapping hunwrap).1]
  refine SitesFit.deliver ?_ e false
  exact h.sites

theorem Sound.reelArrival (h : Sound s) : Sound s.reelArrival := by
  unfold State.reelArrival
  split
  · next hlot => exact h.enterLoading (.inl hlot)
  all_goals exact h

theorem Sound.setReelDebouncer (h : Sound s) (d : ReelDebouncer) :
    Sound { s with supply := { s.supply with debouncer := d } } :=
  ⟨h.sites, h.lot.setReelDebouncer d⟩

theorem Sound.reelRemoval (h : Sound s) : Sound s.reelRemoval := by
  unfold State.reelRemoval
  split
  · exact h
  · next hlot => exact ⟨h.sites, h.lot.failLoad (.inr (.inl hlot)) .reel⟩
  · next hlot => exact h.halt_finish (.inl hlot) nofun
  · next hlot => exact h.halt_finish (.inr hlot) nofun
  · next hlot =>
    have hunloaded := h.lot.unload (.inr (.inr hlot)) s.lot.loadError
    rw [h.lot.freePort_eq (h.lot.port_free (.inr hlot))] at hunloaded
    exact Sound.retime (s := { s with lot := { s.lot with state := .unloaded } }) ⟨h.sites, hunloaded⟩ (.inl rfl)
  · exact h

theorem sound_resetBy (s : State) (c : ResetCause) : Sound (s.resetBy c) := ⟨sitesFit_resetBy s c, lotFits_resetBy s c⟩

/-! ## Every row, every step -/

/-- The state that a row goes to. -/
theorem sound_of_next {v : State} (hu : (.next v : Host.Outcome State Fault Refusal) = .next u) (h : Sound v) :
    Sound u := by
  cases hu
  exact h

theorem Sound.dieResponse (h : Sound s) (statusByte : Byte) (data : List Byte)
    (hu : exec (.dieResponse n statusByte data) s = .next u) : Sound u := by
  refine sound_of_next hu ?_
  split
  · next hout =>
    obtain ⟨t, ht⟩ := h.exists_transaction hout
    rw [ht]
    exact h.endTransaction hout ht _ _
  · next hquiet => exact Sound.quietExpired (s := s.raiseExc n .late) (h.raiseExc .late) hquiet
  all_goals exact h.raiseExc .late

theorem Sound.contactFall (h : Sound s) (hu : exec (.contactFall n) s = .next u) : Sound u := by
  refine sound_of_next hu ?_
  split
  · exact h
  · next hsettling => exact h.setDebouncer (by rw [hsettling]; nofun) nofun
  · exact h.siteLoss

theorem Sound.reelPresentFall (h : Sound s) (hu : exec .reelPresentFall s = .next u) : Sound u := by
  refine sound_of_next hu ?_
  split
  · exact h
  · exact h.setReelDebouncer .absent
  · exact (h.setReelDebouncer .absent).reelRemoval

theorem Sound.imageAnswer (h : Sound s) (hreservations : s.ReservationsOk) (answer : ImageAnswer)
    (hu : exec (.imageAnswer answer) s = .next u) : Sound u := by
  refine sound_of_next hu (h.ite_of fun hport => ?_)
  split <;> exact h.takeAnswer hreservations (by exact hport.symm) _

theorem Sound.fetchAnswer (h : Sound s) (hreservations : s.ReservationsOk) (answer : FetchAnswer)
    (hu : exec (.fetchAnswer answer) s = .next u) : Sound u := by
  refine sound_of_next hu (h.ite_of fun hport => ?_)
  split <;> exact h.takeAnswer hreservations (by exact hport.symm) _

theorem Sound.unwrapCompletion (h : Sound s) (r : UnwrapResult) (hu : exec (.unwrapCompletion r) s = .next u) :
    Sound u := by
  refine sound_of_next hu ?_
  split
  · exact h
  · next key hbusy =>
    have hunwrap : s.supply.unwrap.isSome = true := by rw [hbusy]; rfl
    have hrejected : ∀ reason, Sound (s.rejectKey key.serial reason) := fun reason =>
      ⟨h.sites, h.lot.rejectKey hunwrap key.serial reason⟩
    split
    · exact (hrejected .tag).finish
    · split
      · exact (hrejected .order).finish
      · exact (h.acceptKey hunwrap _).finish

theorem Sound.reelSilent (h : Sound s) (hu : exec .reelSilent s = .next u) : Sound u := by
  refine sound_of_next hu ?_
  split
  · exact h
  · next hport => exact ⟨h.sites, h.lot.failLoad (.inr (.inl (h.lot.engine.loading.1 hport))) .reel⟩
  · next hport => exact h.abandon (h.lot.active (.inl hport)) nofun
  · next hport => exact h.abandon (h.lot.active (.inr hport)) nofun

theorem Sound.discardedReelAnswer (h : Sound s) (hreservations : s.ReservationsOk) (b : ReelBytes)
    (hu : exec (.discardedReelAnswer b) s = .next u) : Sound u := by
  refine sound_of_next hu (h.ite_of fun _ => ?_)
  split
  · next hanswer => exact h.takeAnswer hreservations (answerPort_of_ofBytes hanswer) _
  · exact h

/-- What the arbiter grants it starts (R59). -/
theorem Sound.arbitrate (h : Sound s) : Sound s.arbitrate := by
  rcases arbitrate_cases s with ⟨heq, -⟩ | ⟨heq, hport, hwanted⟩ | ⟨heq, hport, hwanted⟩ <;> rw [heq]
  · exact h
  · exact ⟨h.sites, h.lot.startFetch hport hwanted⟩
  · exact ⟨h.sites, h.lot.startAppend hport hwanted⟩

theorem Sound.fetchStart (h : Sound s) (hu : exec .fetchStart s = .next u) : Sound u := by
  refine sound_of_next hu (h.ite_of fun hgrant => ?_)
  rw [← arbitrate_of_grant_fetch hgrant]
  exact h.arbitrate.finish

theorem Sound.appendStart (h : Sound s) (hu : exec .appendStart s = .next u) : Sound u := by
  refine sound_of_next hu (h.ite_of fun hgrant => ?_)
  rw [← arbitrate_of_grant_append hgrant]
  exact h.arbitrate.finish

theorem Sound.spoilUnused (h : Sound s) (hdue : s.unusedDue = true) : Sound s.spoilUnused := by
  obtain ⟨-, -, kept, e, hdeque⟩ := unusedDue_back hdue
  refine ⟨?_, h.lot.spoilUnused hdue⟩
  rw [spoilUnused_eq hdeque]
  exact h.sites

theorem Sound.exec_next (h : Sound s) (hreservations : s.ReservationsOk) (c : Instr) (hu : exec c s = .next u) :
    Sound u := by
  have hrow : ∀ {n v}, WindowOnly s v → (.next (s.onIdleLane n v) : Host.Outcome State Fault Refusal) = .next u →
      Sound u := fun hv hnext => sound_of_next hnext (h.onIdleLane (h.window hv))
  have hcommand : ∀ {n v}, (.next (s.onIdleLane n v) : Host.Outcome State Fault Refusal) = .next u →
      Sound v → Sound u := fun hnext hv => sound_of_next hnext (h.onIdleLane hv)
  have hwhere : ∀ {p : Prop} [Decidable p] {v},
      (.next (if p then v else s) : Host.Outcome State Fault Refusal) = .next u → (p → Sound v) →
      Sound u := fun hnext hv => sound_of_next hnext (h.ite_of hv)
  cases c with
  | dalRequest n kindByte address data => exact sound_of_next hu (h.request _ _ _)
  | dieResponse n statusByte data => exact h.dieResponse statusByte data hu
  | responseTimerExpiry n => exact hwhere hu fun hlast => h.responseExpired hlast.1
  | quietTimerExpiry n => exact hwhere hu fun hlast => h.quietExpired hlast.1
  | tick => exact sound_of_next hu h.tick
  | contactRise n => exact hwhere hu fun hlow => h.setDebouncer (by rw [hlow]; nofun) nofun
  | contactDebounceComplete n =>
    refine hwhere hu fun hlast => h.establish fun hestablished => ne_established_of_reached hlast ?_
    rw [hestablished]
    rfl
  | contactFall n => exact h.contactFall hu
  | keyWaitExpiry n =>
    exact hwhere hu fun hlast => h.keyWaitExpired ((h.sites n).keyWait.1 (isRunning_of_lastTick hlast))
  | dwellExpiry n => exact hwhere hu fun hlast => h.dwellExpired ((h.sites n).dwell.1 (isRunning_of_lastTick hlast))
  | programWatchdogExpiry n =>
    exact hwhere hu fun hlast => h.watchdogExpired ((h.sites n).watchdog.1 (isRunning_of_lastTick hlast))
  | reelPresentRise => exact hwhere hu fun _ => h.setReelDebouncer .settling
  | reelDebounceEnd => exact hwhere hu fun _ => (h.setReelDebouncer .present).reelArrival
  | reelPresentFall => exact h.reelPresentFall hu
  | imageAnswer answer => exact h.imageAnswer hreservations answer hu
  | fetchStart => exact h.fetchStart hu
  | fetchAnswer answer => exact h.fetchAnswer hreservations answer hu
  | unwrapCompletion r => exact h.unwrapCompletion r hu
  | appendStart => exact h.appendStart hu
  | appendOk => exact hwhere hu fun hport => h.takeAnswer hreservations (answer := .appendOk) hport.symm false
  | appendFail => exact hwhere hu fun hport => h.takeAnswer hreservations (answer := .appendFail) hport.symm false
  | appendFull => exact hwhere hu fun hport => h.takeAnswer hreservations (answer := .appendFull) hport.symm false
  | reelSilent => exact h.reelSilent hu
  | discardedReelAnswer b => exact h.discardedReelAnswer hreservations b hu
  | unusedSpoil => exact hwhere hu fun hdue => (h.spoilUnused hdue).finish
  | closeRecord => exact hwhere hu fun hdue => Sound.finish ⟨h.sites, h.lot.queueClose hdue⟩
  | load n => exact hcommand hu h.cmdLoad
  | close n => exact hcommand hu h.cmdClose
  | release n arg => exact hcommand hu (h.cmdRelease arg)
  | lowest n arg => exact hcommand hu (h.cmdLowest arg)
  | mask n arg on => exact hrow (windowOnly_cmdMask s n arg on) hu
  | clearChecked n arg => exact hrow (windowOnly_cmdClearChecked s n arg) hu
  | clearUnchecked n arg => exact hrow (windowOnly_cmdClearUnchecked s n arg) hu
  | alertTake n => exact hrow (windowOnly_takeAlert s n) hu
  | alertEndNonSpecific n => exact hrow (windowOnly_endAlert s n) hu
  | alertEndSpecific n source => exact hrow (windowOnly_endAlertOf s n _) hu
  | alertMask n data => exact hrow (windowOnly_alertMaskWrite s n data) hu
  | exceptionMask n data => exact hrow (windowOnly_excMaskWrite s n data) hu
  | viewSelect n page index => exact hrow (windowOnly_selectView s n page index) hu
  | viewData n => exact hrow (windowOnly_readView s n) hu
  | tallyLatch n => exact hrow (windowOnly_latchTallies s n) hu
  | tally n which => exact hrow (windowOnly_readTally s n which) hu
  | claimWordWrite n word data => exact hcommand hu (h.claimWrite word data)
  | powerOn => exact sound_of_next hu (sound_resetBy s .power)
  | resetLine => exact sound_of_next hu (sound_resetBy s .line)

theorem Sound.step_next (h : Sound s) (hreservations : s.ReservationsOk) (hu : step s = .next u) : Sound u := by
  unfold step at hu
  split at hu
  · exact sound_of_next hu h
  · next c rest _ => exact Sound.exec_next (s := { s with pending := rest }) ⟨h.sites, h.lot⟩ hreservations c hu

/-- With the ledger, what the invariants together say. -/
theorem Sound.coherent (h : Sound s) (hledger : Ledger 0 0 s) : s.Coherent := by
  obtain ⟨hbalance, hceiling, hroom, hreservations, hfit⟩ := hledger.invariants
  obtain ⟨hengine, ⟨hwaits, hempty, hidle, hring⟩, ⟨hpage, hnewest, hclose⟩⟩ := h.lot
  exact {
    ring := hring
    lanes := fun n => (h.sites n).lane
    sites := fun n => ⟨(h.sites n).key, (h.sites n).suspect, (h.sites n).capture, (h.sites n).contact⟩
    waits := fun n => ⟨(h.sites n).held, (h.sites n).ready, (h.sites n).keyWait, (h.sites n).dwell, (h.sites n).watchdog⟩
    burns := fun n b hb => ⟨(h.sites n).exposed b hb, (h.sites n).burning b hb⟩
    flights := fun n => (h.sites n).flight
    supply := h.lot.supplyOk
    lot := ⟨hengine.cause, hengine.loadError, hengine.image, hengine.loading, hengine.port, hengine.draw,
      hwaits.imp_right (waiters_eq_zero s).2, by
        rcases hempty with (hlot | hlot | hlot) | hnothing
        · exact .inl hlot
        · exact .inr (.inl hlot)
        · exact .inr (.inr (.inl hlot))
        · exact .inr (.inr (.inr hnothing))⟩
    pool := hidle.imp_left (waiters_eq_zero s).2
    room := hroom
    reservations := hreservations
    fit := hfit
    balance := hbalance
    ceiling := hceiling
    page := hpage
    close := ⟨hnewest, fun hany =>
      have ⟨hqueued, hdrained, hlot⟩ := hclose hany
      ⟨hqueued, (drained_iff s).2 hdrained, hlot⟩⟩ }

/-- Settles O58: sites and lots stay sound row by row, and the ledger keeps the counts. -/
theorem stepKeepsCoherence : Obligations.StepKeepsCoherence := fun _ _ hcoherent hstep =>
  ((sound_of_coherent hcoherent).step_next hcoherent.reservations hstep).coherent
    ((ledgerReady_of_coherent hcoherent).step_next hstep)

end Sys2Proof.Machine.Coherence
end

section
/-! Every command answers a next state and leaves the queue alone, and keeps the orders: the ring, the lanes, the in-service
list, the view pointers, the sequences and the tally bound (R2, R75, R76, R144, R161, R176, R184). -/

namespace Sys2Proof.Machine.StepOrders

open LotStates ReelSupply SiteEngine SiteCoherence ClaimWords LotAccounting

/-- No tally passes 0xFFFF_FFFF (R184). -/
def TalliesBound (t : Tallies) : Prop := ∀ which, t.get which ≤ 0xFFFFFFFF

/-- What an event from `s` keeps, over the parts that it reads. -/
structure OrderlyParts (s : State) (pending : List Instr) (ring : List Site) (lanes : PerSite Lane)
    (inService : List Source) (pointers : PerSite ViewPointer) (records : List LogRecord) (nextSeq : Word)
    (tallies : Tallies) : Prop where
  pending : pending = s.pending
  ring : s.RingOk → ring.Nodup ∧ ∀ n : Site, n ∈ ring
  lanes : s.LanesOk → ∀ n : Site, lanes[n].Ok
  service : s.InServiceOk → inService.Pairwise (fun a b => b.priority < a.priority)
  pointers : s.PointersOk → ∀ n : Site, pointers[n].index < pointers[n].page.length
  seqs : seqsBelow s.log.records s.log.nextSeq → seqsBelow records nextSeq
  tallies : TalliesBound s.tallies → TalliesBound tallies

/-- From `s` to `u` the queue is left alone and every order is kept. An operation that leaves these parts alone keeps it by
definition. -/
def Orderly (s u : State) : Prop :=
  OrderlyParts s u.pending u.pool.ring u.lanes u.alert.inService u.pointers u.log.records u.log.nextSeq u.tallies

variable {s u v : State} {n : Site}

theorem Orderly.refl (s : State) : Orderly s s := ⟨rfl, id, id, id, id, id, id⟩

theorem Orderly.ite {c : Prop} [Decidable c] (hu : Orderly s u) (hv : Orderly s v) : Orderly s (if c then u else v) := by
  split
  · exact hu
  · exact hv

/-- What changes no work of the part. -/
theorem orderly_of_windowOnly (h : WindowOnly s u) : Orderly s u := by
  have hwork := h.work
  simp only [work, Work.mk.injEq] at hwork
  obtain ⟨-, -, hpool, -, -, hlanes, hlog, htallies, hpending⟩ := hwork
  rw [Orderly, hpool, hlanes, hlog, htallies]
  exact ⟨hpending, id, id, h.service, h.pointers, id, id⟩

/-! ## The parts, one by one -/

theorem Orderly.setLane (h : Orderly s u) {l : Lane} (hl : l.Ok) : Orderly s (u.setLane n l) :=
  ⟨h.pending, h.ring, fun hs => forall_perSite_set (P := fun _ l => Lane.Ok l) hl (h.lanes hs), h.service, h.pointers,
    h.seqs, h.tallies⟩

theorem Orderly.setLane_idle (h : Orderly s u) : Orderly s (u.setLane n Lane.idle) := h.setLane idle_ok

/-- A lane in flight. -/
theorem outbound_ok (limit : Nat) (t : Transaction) : (⟨.outbound, .running 0 limit, some t⟩ : Lane).Ok :=
  ⟨iff_of_true rfl (.inl rfl), iff_of_true rfl (.inl rfl), nofun⟩

theorem Orderly.forward (h : Orderly s u) (t : Transaction) (d : Option Word) : Orderly s (u.forward n t d) :=
  Orderly.setLane (u := u.send _) h (outbound_ok _ t)

theorem Orderly.enqueue (h : Orderly s u) (body : RecordBody) : Orderly s (u.enqueue body) :=
  ⟨h.pending, h.ring, h.lanes, h.service, h.pointers, fun hs => seqsBelow_enqueue (h.seqs hs) body, h.tallies⟩

theorem Orderly.useRes (h : Orderly s u) (body : RecordBody) : Orderly s (u.useRes body) := h.enqueue body

theorem raised_le {x : Nat} (h : x ≤ 0xFFFFFFFF) : raised x ≤ 0xFFFFFFFF := by
  unfold raised
  split <;> omega

theorem talliesBound_raise {t : Tallies} (h : TalliesBound t) (which : Tally) : TalliesBound (t.raise which) := by
  intro other
  rw [get_raise]
  split
  · exact raised_le (h other)
  · exact h other

theorem Orderly.raiseTally (h : Orderly s u) (which : Tally) : Orderly s (u.raiseTally which) :=
  ⟨h.pending, h.ring, h.lanes, h.service, h.pointers, h.seqs, fun hs => talliesBound_raise (h.tallies hs) which⟩

/-- Another alert controller with the same in-service list. -/
theorem Orderly.setAlert (h : Orderly s u) {a : AlertController} (ha : a.inService = u.alert.inService) :
    Orderly s { u with alert := a } :=
  ⟨h.pending, h.ring, h.lanes, fun hs => ha ▸ h.service hs, h.pointers, h.seqs, h.tallies⟩

theorem Orderly.alertEvent (h : Orderly s u) (src : Source) (site : Option Site) : Orderly s (u.alertEvent src site) :=
  h.setAlert (event_inService _ src site)

theorem Orderly.raiseExc (h : Orderly s u) (k : ExcKind) : Orderly s (u.raiseExc n k) := by
  have hsame : (u.raiseExc n k).alert.inService = u.alert.inService := by
    rw [State.raiseExc_alert]
    split
    · rfl
    · exact event_inService _ _ _
  have hset := h.setAlert hsame
  exact hset

theorem Orderly.setRing (h : Orderly s u) {ring : List Site}
    (hring : (u.pool.ring.Nodup ∧ ∀ m : Site, m ∈ u.pool.ring) → ring.Nodup ∧ ∀ m : Site, m ∈ ring) :
    Orderly s { u with pool := { u.pool with ring := ring } } :=
  ⟨h.pending, fun hs => hring (h.ring hs), h.lanes, h.service, h.pointers, h.seqs, h.tallies⟩

/-! ## Keys, the end of an event, and held writes -/

theorem Orderly.handOut (h : Orderly s u) (e : KeyEntry) : Orderly s (u.handOut n e) :=
  Orderly.forward (u := State.bindKey { (u.setWaiting n false).stopKeyWait n with pool := _ } n e _)
    (Orderly.setRing (u := (u.setWaiting n false).stopKeyWait n) h (rotate_order n)) _ _

theorem Orderly.deliver (h : Orderly s u) (e : KeyEntry) (front : Bool) : Orderly s (u.deliver e front) := by
  rcases deliver_cases u e front with ⟨n, -, heq⟩ | ⟨-, heq⟩ <;> rw [heq]
  · exact h.handOut e
  · exact h

theorem Orderly.spoil (h : Orderly s u) (r : SpoilReason) (next : SiteState) : Orderly s (u.spoil n r next) := by
  unfold State.spoil
  split
  · exact h
  · exact Orderly.alertEvent (u := State.endBinding _ n next _) ((h.useRes _).raiseTally .spoiled) _ _

theorem Orderly.commit (h : Orderly s u) : Orderly s (u.commit n) := by
  unfold State.commit
  split
  · exact h
  · exact (h.useRes _).raiseTally .committed

theorem Orderly.returnKey (h : Orderly s u) (next : SiteState) : Orderly s (u.returnKey n next) := by
  unfold State.returnKey
  split
  · exact h
  · refine Orderly.deliver ?_ _ true
    exact h

theorem Orderly.endStaging (h : Orderly s u) (r : SpoilReason) (spoiled returned : SiteState) :
    Orderly s (u.endStaging n r spoiled returned) := by
  unfold State.endStaging
  split
  · exact h
  · exact (h.spoil r spoiled).ite (h.returnKey returned)

theorem Orderly.blank (h : Orderly s u) : Orderly s (u.blank n) := (h.useRes _).raiseTally .blanked

theorem Orderly.spoilUnused (h : Orderly s u) : Orderly s u.spoilUnused := by
  unfold State.spoilUnused
  split
  · exact h
  · refine Orderly.raiseTally (Orderly.useRes ?_ _) .spoiled
    exact h

theorem Orderly.queueClose (h : Orderly s u) : Orderly s u.queueClose := h.enqueue _

theorem Orderly.reportConditions (h : Orderly s u) : Orderly s u.reportConditions := by
  rw [reportConditions_eq]
  exact h.setAlert rfl

theorem Orderly.finish (h : Orderly s u) : Orderly s u.finish :=
  finish_induct (P := Orderly s) (fun _ h _ _ => h) (fun _ h _ _ => h) (fun _ h _ => h.spoilUnused)
    (fun _ h _ _ => h.queueClose) (fun _ h => h.reportConditions) u h

theorem Orderly.dropHeld (h : Orderly s u) (st : Status) : Orderly s (u.dropHeld n st) :=
  Orderly.setLane_idle (u := State.answer _ n st) h

theorem Orderly.leaveOpen (h : Orderly s u) : Orderly s u.leaveOpen :=
  leaveOpen_induct (P := Orderly s) (fun _ _ hu _ => hu.dropHeld .refused) u h

theorem Orderly.endDraw (h : Orderly s u) : Orderly s u.endDraw := by
  unfold State.endDraw
  exact Orderly.ite (by exact h) h

theorem Orderly.halt (h : Orderly s u) (c : HaltCause) : Orderly s (u.halt c) := by
  unfold State.halt
  split
  · have hleft : Orderly s u.leaveOpen := h.leaveOpen
    generalize u.leaveOpen = v at hleft ⊢
    have hended : Orderly s v.freePort.endDraw := Orderly.endDraw (u := v.freePort) hleft
    generalize v.freePort.endDraw = w at hended ⊢
    exact hended
  · exact h

/-! ## Loads and resets -/

theorem Orderly.retime (h : Orderly s u) : Orderly s u.retime := by
  refine ⟨h.pending, h.ring, fun hs n => ?_, h.service, h.pointers, h.seqs, h.tallies⟩
  rw [State.retime_lane]
  exact ok_setTimer (h.lanes hs n) (restart_isRunning _ _)

theorem Orderly.countTick (h : Orderly s u) : Orderly s u.countTick := by
  refine ⟨h.pending, h.ring, fun hs n => ?_, h.service, h.pointers, h.seqs, h.tallies⟩
  rw [State.countTick_lane]
  exact ok_setTimer (h.lanes hs n) (count_isRunning _)

theorem Orderly.enterLoading (h : Orderly s u) : Orderly s u.enterLoading := by
  have hloaded : Orderly s { u with lot := { u.lot with state := .loading, loadError := .none } } := h
  exact Orderly.ite (u := State.retime _) (v := { u with lot := _ }) hloaded.retime hloaded

theorem Orderly.failLoad (h : Orderly s u) (e : LoadError) : Orderly s (u.failLoad e) :=
  Orderly.alertEvent (u := { u with lot := _ }) h .lot none

theorem seqsBelow_first (body : RecordBody) : seqsBelow [⟨1, body⟩] 2 :=
  ⟨(by decide : (1 : Word) = 2 - BitVec.ofNat 32 1), trivial⟩

theorem talliesBound_zero : TalliesBound Tallies.zero := fun which => by cases which <;> exact Nat.zero_le _

theorem Orderly.lotOpen (h : Orderly s u) (im : LotImage) : Orderly s (u.freePort.lotOpen im) := by
  have hlanes := h.retime.lanes
  rw [lotOpen_freePort_eq]
  refine ⟨h.pending, h.ring, fun hs n => ?_, fun _ => List.Pairwise.nil, h.pointers, fun _ => seqsBelow_first _,
    fun _ => talliesBound_zero⟩
  dsimp only
  rw [perSite_ofFn, ← timer_restart_eq]
  exact ok_setTimer (h.lanes hs n) (restart_isRunning _ _)

theorem orderly_resetBy (s : State) (c : ResetCause) : Orderly s (s.resetBy c) := by
  refine ⟨rfl, fun _ => ?_, fun _ n => ?_, fun _ => List.Pairwise.nil, fun _ n => ?_, fun _ => trivial,
    fun _ => talliesBound_zero⟩
  · exact (by decide : ([0, 1, 2, 3, 4, 5, 6, 7] : List Site).Nodup ∧
      ∀ n : Site, n ∈ ([0, 1, 2, 3, 4, 5, 6, 7] : List Site))
  · show (Vector.replicate 8 Lane.idle)[n].Ok
    rw [perSite_replicate]
    exact idle_ok
  · show (Vector.replicate 8 (⟨.lot, 0⟩ : ViewPointer))[n].index < (Vector.replicate 8 (⟨.lot, 0⟩ : ViewPointer))[n].page.length
    rw [perSite_replicate]
    decide

/-! ## Requests (R4 to R12, R68 to R93) -/

theorem Orderly.bindClaim (h : Orderly s u) {t : Transaction} (ht : t.kind = .write ∧ t.role = .stage) :
    Orderly s (u.bindClaim n t) := by
  have hlent : Orderly s ((u.raiseExc n .keyless).lend) := h.raiseExc .keyless
  have hheld : (⟨.held, .stopped, some { t with observed := true }⟩ : Lane).Ok :=
    ⟨iff_of_true rfl (.inr rfl), iff_of_false nofun fun h => h.elim nofun nofun, fun _ x hx => by cases hx; exact ht⟩
  unfold State.bindClaim
  refine Orderly.ite h ?_
  split
  · refine Orderly.finish (Orderly.forward ?_ _ _)
    exact h
  · refine Orderly.ite (Orderly.finish (Orderly.setLane ?_ hheld)) (Orderly.ite ?_ (Orderly.finish hlent))
    · exact h
    · exact (hlent.blank.forward _ _).finish

theorem Orderly.refuseOrder (h : Orderly s u) : Orderly s (u.refuseOrder n) := h.raiseExc .order

theorem Orderly.stageWrite (h : Orderly s u) {t : Transaction} (ht : t.kind = .write ∧ t.role = .stage) :
    Orderly s (u.stageWrite n t) := by
  unfold State.stageWrite
  split
  · exact Orderly.ite h.refuseOrder (Orderly.ite (h.raiseExc .keyless) (h.bindClaim ht))
  · split
    · exact h.refuseOrder
    · exact Orderly.forward (u := u.setSite n _) h _ _
  · exact h.forward _ _
  iterate 4 exact h.refuseOrder
  · exact h

theorem Orderly.armWrite (h : Orderly s u) (t : Transaction) : Orderly s (u.armWrite n t) :=
  Orderly.ite (Orderly.forward (u := (u.setSite n _).setTimers n _) h _ _) h.refuseOrder

theorem Orderly.byRole (h : Orderly s u) (t : Transaction) (data : Word) : Orderly s (u.byRole n t data) := by
  unfold State.byRole
  split
  · exact h.forward _ _
  · exact h.raiseExc .guard
  iterate 3 split <;> exact h.forward _ _
  · next hrole =>
    split
    · exact h
    · next hkind => exact h.stageWrite ⟨hkind, hrole⟩
  · split
    · exact h.forward _ _
    · exact Orderly.ite (h.armWrite t) (h.forward _ _)
  · exact h

theorem Orderly.byLot (h : Orderly s u) (k : Kind) (a d : Address) (data : Word) :
    Orderly s (u.byLot n k a d data) := by
  unfold State.byLot
  split
  · exact h.forward _ _
  · exact h
  all_goals exact h.byRole _ data

/-! ## Outcomes (R83 to R99) -/

theorem Orderly.checkOutcome (h : Orderly s u) (offset : Nat) (o : DieOutcome) :
    Orderly s (u.checkOutcome n offset o) := by
  unfold State.checkOutcome
  split
  · have hcaptured : ∀ c, Orderly s (u.setSite n c) := fun _ => h
    unfold State.compareCheck
    split
    · exact Orderly.ite (hcaptured _).commit.finish ((hcaptured _).spoil .mismatch .fault).finish
    · exact hcaptured _
  · exact h

theorem Orderly.statusOutcome (h : Orderly s u) (o : DieOutcome) : Orderly s (u.statusOutcome n o) := by
  unfold State.statusOutcome
  split
  · have hcleared : Orderly s (u.setSite n { u.sites[n] with suspect := false }) := h
    exact Orderly.ite h (Orderly.ite (Orderly.ite h (hcleared.spoil .burn .fault).finish) h)
  · exact h

theorem Orderly.armOutcome (h : Orderly s u) (o : DieOutcome) : Orderly s (u.armOutcome n o) := by
  by_cases harmed : u.sites[n].state = .armed
  · by_cases hnak : o = .nak
    · rw [hnak, armOutcome_nak harmed]
      exact h
    · rw [armOutcome_counts harmed hnak]
      exact h
  · rw [armOutcome_other harmed]
    exact h

theorem Orderly.outcome (h : Orderly s u) (t : Transaction) (o : DieOutcome) : Orderly s (u.outcome n t o) := by
  refine Orderly.ite ?_ h
  unfold State.outcomeByRole
  split
  · unfold State.identOutcome
    split <;> exact h
  · unfold State.stageOutcome
    split
    · exact h
    · exact Orderly.ite h h
  · exact Orderly.ite (h.armOutcome o) h
  · exact h.statusOutcome o
  · exact h.checkOutcome _ o
  all_goals exact h

theorem Orderly.endTransaction (h : Orderly s u) (t : Transaction) (st : Status) (data : Word) :
    Orderly s (u.endTransaction n t st data) :=
  Orderly.setLane_idle (u := State.answer _ n st _) (Orderly.ite (h.outcome t _) h)

/-! ## Contact and expiries (R14 to R18, R104, R105, R111 to R124) -/

theorem Orderly.laneLoss (h : Orderly s u) : Orderly s (u.laneLoss n) := by
  unfold State.laneLoss
  split
  · exact h
  all_goals exact Orderly.setLane_idle h

theorem Orderly.siteLoss (h : Orderly s u) : Orderly s (u.siteLoss n) := by
  unfold State.siteLoss
  split
  iterate 4 exact h
  · refine Orderly.ite (Orderly.finish ?_) h
    exact h
  · exact (h.endStaging .lift .vacant .vacant).finish
  · exact (h.spoil .lift .vacant).finish
  · exact (h.spoil .lift .vacant).finish

theorem Orderly.keyWaitExpired (h : Orderly s u) : Orderly s (u.keyWaitExpired n) := by
  have hraised : Orderly s (((u.stopKeyWait n).setWaiting n false).raiseExc n .keyless) :=
    Orderly.raiseExc (u := (u.stopKeyWait n).setWaiting n false) h .keyless
  refine Orderly.ite (Orderly.ite (hraised.blank.forward _ _).finish (Orderly.finish ?_)) h
  exact Orderly.setLane_idle (u := State.answer (State.releaseRes _) n .refused) hraised

theorem Orderly.dwellExpired (h : Orderly s u) : Orderly s (u.dwellExpired n) :=
  (Orderly.endStaging (u := u.stopBurnTimers n) h .dwell .fault .ready).finish

theorem Orderly.watchdogExpired (h : Orderly s u) : Orderly s (u.watchdogExpired n) :=
  (Orderly.spoil (u := u.stopBurnTimers n) h .stall .fault).finish

theorem Orderly.responseExpired (h : Orderly s u) : Orderly s (u.responseExpired n) := by
  have hraised : Orderly s ((u.answer n .timeout).raiseExc n .timeout) := Orderly.raiseExc (u := u.answer n .timeout) h .timeout
  unfold State.responseExpired
  refine Orderly.setLane ?_ (Coherence.quarantine_ok _)
  split
  · exact Orderly.ite (hraised.outcome _ .timeout) hraised
  · exact hraised

theorem Orderly.expireAt (h : Orderly s u) (n : Site) : Orderly s (u.expireAt n) := by
  unfold State.expireAt
  extract_lets s1 s2 s3 s4
  have h1 : Orderly s s1 := Orderly.ite h h
  have h2 : Orderly s s2 := Orderly.ite h1.keyWaitExpired h1
  have h3 : Orderly s s3 := Orderly.ite h2.dwellExpired h2
  have h4 : Orderly s s4 := Orderly.ite h3.watchdogExpired h3
  clear_value s4
  refine Orderly.ite ?_ h4
  split
  · exact h4.responseExpired
  · exact h4.setLane_idle
  · exact h4
  · exact h4

theorem Orderly.expireAll (h : Orderly s u) (sites : List Site) : Orderly s (sites.foldl State.expireAt u) := by
  induction sites generalizing u with
  | nil => exact h
  | cons n sites ih => exact ih (h.expireAt n)

/-! ## Commands (R29, R35, R76, R103) -/

theorem Orderly.cmdLoad (h : Orderly s u) : Orderly s (u.cmdLoad n) := by
  unfold State.cmdLoad
  split
  · exact Orderly.ite (Orderly.enterLoading h) (h.failLoad .reel)
  · exact Orderly.ite (Orderly.enterLoading h) (h.failLoad .reel).retime
  all_goals exact h

theorem Orderly.cmdClose (h : Orderly s u) : Orderly s (u.cmdClose n) := by
  unfold State.cmdClose
  split
  · have hleft : Orderly s u.leaveOpen := h.leaveOpen
    generalize u.leaveOpen = v at hleft ⊢
    exact Orderly.finish (u := State.answer { v with lot := _ } n .ok) hleft
  · exact h

theorem Orderly.withSiteArg (h : Orderly s u) (arg : Byte) {f : Site → State} (hf : ∀ m, Orderly s (f m)) :
    Orderly s (u.withSiteArg n arg f) := by
  unfold State.withSiteArg
  refine Orderly.ite ?_ h
  split
  · exact hf _
  · exact h

theorem Orderly.releaseSite (h : Orderly s u) (m : Site) : Orderly s (u.releaseSite n m) := by
  have hspoiled : Orderly s (u.spoil m .release .finished) := h.spoil .release .finished
  unfold State.releaseSite
  split
  · exact h
  · exact h
  · exact Orderly.ite (Orderly.finish (u := State.answer _ n .ok) (h.dropHeld .refused)) h
  · exact Orderly.finish (u := State.answer _ n .ok) (h.endStaging .release .finished .ready)
  · exact h
  · exact h
  · exact Orderly.finish (u := State.answer _ n .ok) hspoiled
  · exact Orderly.finish (u := State.answer _ n .ok) hspoiled

theorem Orderly.cmdRelease (h : Orderly s u) (arg : Byte) : Orderly s (u.cmdRelease n arg) :=
  h.withSiteArg arg h.releaseSite

theorem Orderly.cmdLowest (h : Orderly s u) (arg : Byte) : Orderly s (u.cmdLowest n arg) :=
  h.withSiteArg arg fun m => h.setRing fun _ => lowestRing_order m

theorem orderly_request (s : State) (n : Site) (k : Kind) (a : Address) (data : Word) : Orderly s (s.request n k a data) :=
  have h := Orderly.refl s
  request_induct (fun _ => orderly_of_windowOnly) h.cmdLoad h.cmdClose h.cmdRelease h.cmdLowest (fun _ => h.byLot) k a data

theorem orderly_claimWrite (s : State) (n : Site) (word : Fin 16) (data : Word) : Orderly s (s.claimWrite n word data) :=
  have h := Orderly.refl s
  claimWrite_induct (fun _ => orderly_of_windowOnly) h.cmdLoad h.cmdClose h.cmdRelease h.cmdLowest word data

theorem orderly_onIdleLane (h : Orderly s u) : Orderly s (s.onIdleLane n u) :=
  Orderly.ite h (orderly_of_windowOnly (windowOnly_busy s n))

/-! ## The reel's rows (R30, R31, R33, R46 to R63) -/

theorem Orderly.abandon (h : Orderly s u) (c : HaltCause) : Orderly s (u.freePort.halt c).finish :=
  (Orderly.halt (u := u.freePort) h c).finish

theorem Orderly.confirmPage (h : Orderly s u) : Orderly s u.confirmPage :=
  ⟨h.pending, h.ring, h.lanes, h.service, h.pointers, fun hs => seqsBelow_drop (h.seqs hs) _, h.tallies⟩

theorem Orderly.takeAnswer (h : Orderly s u) (tagPasses : Bool) (answer : ReelAnswer) :
    Orderly s (u.takeAnswer tagPasses answer) := by
  have hfree : Orderly s u.freePort := h
  cases answer with
  | image bytes =>
    refine Orderly.ite ?_ (hfree.failLoad .tag)
    split
    · exact (h.lotOpen _).finish
    · exact hfree.failLoad .format
  | absent => exact hfree.failLoad .absent
  | record bytes => exact Orderly.finish (u := { u.freePort with supply := _ }) hfree
  | endOfReel => exact Orderly.finish (u := { u.freePort.endDraw with supply := _ }) hfree.endDraw
  | appendOk =>
    exact Orderly.ite (Orderly.finish (u := u.confirmPage.closeLot)
      (Orderly.alertEvent (u := { u.confirmPage with lot := _ }) h.confirmPage .lot none)) h.confirmPage.finish
  | appendFail => exact Orderly.ite h (h.abandon .appendFail)
  | appendFull => exact h.abandon .logSpace

theorem Orderly.rejectKey (h : Orderly s u) (serial : Serial) (reason : RejectReason) :
    Orderly s (u.rejectKey serial reason) :=
  (h.useRes _).raiseTally .rejected

theorem Orderly.acceptKey (h : Orderly s u) (e : KeyEntry) : Orderly s (u.acceptKey e) :=
  Orderly.deliver (u := State.endDraw _) (Orderly.endDraw
    (Orderly.raiseTally (u := { u with pool := { u.pool with highest := some e.serial } }) h .fetched)) e false

theorem Orderly.reelArrival (h : Orderly s u) : Orderly s u.reelArrival := by
  unfold State.reelArrival
  split
  · exact h.enterLoading
  all_goals exact h

theorem Orderly.reelRemoval (h : Orderly s u) : Orderly s u.reelRemoval := by
  have hfree : Orderly s u.freePort := h
  unfold State.reelRemoval
  split
  · exact h
  · exact hfree.failLoad .reel
  · exact (h.halt .reelLost).finish
  · exact (h.halt .reelLost).finish
  · exact Orderly.retime (u := { u with lot := _ }) h
  · exact h

/-! ## Every row, every step -/

/-- A row answers a next state, which is in order. -/
def AnswersOrderly (s : State) (o : Host.Outcome State Fault Refusal) : Prop := ∃ u, o = .next u ∧ Orderly s u

theorem answersOrderly (h : Orderly s u) : AnswersOrderly s (.next u) := ⟨u, rfl, h⟩

theorem dieResponse_answersOrderly (s : State) (n : Site) (statusByte : Byte) (data : List Byte) :
    AnswersOrderly s (exec (.dieResponse n statusByte data) s) := by
  have h := Orderly.refl s
  refine answersOrderly ?_
  split
  · split
    · exact h.endTransaction _ _ _
    · exact h.setLane_idle
  · exact (h.raiseExc .late).setLane_idle
  all_goals exact h.raiseExc .late

theorem contactFall_answersOrderly (s : State) (n : Site) : AnswersOrderly s (exec (.contactFall n) s) := by
  have h := Orderly.refl s
  refine answersOrderly ?_
  split
  · exact h
  · exact h
  · exact (Orderly.laneLoss (u := s.setTimers n _) h).siteLoss

theorem reelPresentFall_answersOrderly (s : State) : AnswersOrderly s (exec .reelPresentFall s) := by
  have h := Orderly.refl s
  refine answersOrderly ?_
  split
  · exact h
  · exact h
  · exact Orderly.reelRemoval (u := { s with supply := _ }) h

theorem imageAnswer_answersOrderly (s : State) (answer : ImageAnswer) :
    AnswersOrderly s (exec (.imageAnswer answer) s) := by
  have h := Orderly.refl s
  refine answersOrderly (Orderly.ite ?_ h)
  split <;> exact h.takeAnswer _ _

theorem fetchAnswer_answersOrderly (s : State) (answer : FetchAnswer) :
    AnswersOrderly s (exec (.fetchAnswer answer) s) := by
  have h := Orderly.refl s
  refine answersOrderly (Orderly.ite ?_ h)
  split <;> exact h.takeAnswer _ _

theorem unwrapCompletion_answersOrderly (s : State) (r : UnwrapResult) :
    AnswersOrderly s (exec (.unwrapCompletion r) s) := by
  have h := Orderly.refl s
  refine answersOrderly ?_
  split
  · exact h
  · split
    · exact (h.rejectKey _ _).finish
    · exact Orderly.ite (h.rejectKey _ _).finish (h.acceptKey _).finish

theorem reelSilent_answersOrderly (s : State) : AnswersOrderly s (exec .reelSilent s) := by
  have h := Orderly.refl s
  refine answersOrderly ?_
  split
  · exact h
  · exact Orderly.failLoad (u := s.freePort) h .reel
  · exact h.abandon .reelSilent
  · exact h.abandon .reelSilent

theorem discardedReelAnswer_answersOrderly (s : State) (b : ReelBytes) :
    AnswersOrderly s (exec (.discardedReelAnswer b) s) := by
  have h := Orderly.refl s
  refine answersOrderly (Orderly.ite ?_ h)
  split
  · exact h.takeAnswer _ _
  · exact h

theorem exec_answersOrderly (c : Instr) (s : State) : AnswersOrderly s (exec c s) := by
  have h := Orderly.refl s
  have hwhere : ∀ {p : Prop} [Decidable p] {v}, Orderly s v → AnswersOrderly s (.next (if p then v else s)) := fun hv =>
    answersOrderly (hv.ite h)
  have hcommand : ∀ {n v}, Orderly s v → AnswersOrderly s (.next (s.onIdleLane n v)) := fun hv =>
    answersOrderly (orderly_onIdleLane hv)
  have hword : ∀ {n v}, WindowOnly s v → AnswersOrderly s (.next (s.onIdleLane n v)) := fun hv =>
    hcommand (orderly_of_windowOnly hv)
  cases c with
  | dalRequest n kindByte address data => exact answersOrderly (orderly_request s n _ _ _)
  | dieResponse n statusByte data => exact dieResponse_answersOrderly s n statusByte data
  | responseTimerExpiry n => exact hwhere h.responseExpired
  | quietTimerExpiry n => exact hwhere h.setLane_idle
  | tick => exact answersOrderly (h.countTick.expireAll _)
  | contactRise n => exact hwhere h
  | contactDebounceComplete n => exact hwhere h
  | contactFall n => exact contactFall_answersOrderly s n
  | keyWaitExpiry n => exact hwhere h.keyWaitExpired
  | dwellExpiry n => exact hwhere h.dwellExpired
  | programWatchdogExpiry n => exact hwhere h.watchdogExpired
  | reelPresentRise => exact hwhere h
  | reelDebounceEnd => exact hwhere (Orderly.reelArrival (u := { s with supply := _ }) h)
  | reelPresentFall => exact reelPresentFall_answersOrderly s
  | imageAnswer answer => exact imageAnswer_answersOrderly s answer
  | fetchStart => exact hwhere (Orderly.finish (u := s.startFetch) h)
  | fetchAnswer answer => exact fetchAnswer_answersOrderly s answer
  | unwrapCompletion r => exact unwrapCompletion_answersOrderly s r
  | appendStart => exact hwhere (Orderly.finish (u := s.startAppend) h)
  | appendOk => exact hwhere (h.takeAnswer false .appendOk)
  | appendFail => exact hwhere (h.takeAnswer false .appendFail)
  | appendFull => exact hwhere (h.takeAnswer false .appendFull)
  | reelSilent => exact reelSilent_answersOrderly s
  | discardedReelAnswer b => exact discardedReelAnswer_answersOrderly s b
  | unusedSpoil => exact hwhere h.spoilUnused.finish
  | closeRecord => exact hwhere h.queueClose.finish
  | load n => exact hcommand h.cmdLoad
  | close n => exact hcommand h.cmdClose
  | release n arg => exact hcommand (h.cmdRelease arg)
  | lowest n arg => exact hcommand (h.cmdLowest arg)
  | mask n arg on => exact hword (windowOnly_cmdMask s n arg on)
  | clearChecked n arg => exact hword (windowOnly_cmdClearChecked s n arg)
  | clearUnchecked n arg => exact hword (windowOnly_cmdClearUnchecked s n arg)
  | alertTake n => exact hword (windowOnly_takeAlert s n)
  | alertEndNonSpecific n => exact hword (windowOnly_endAlert s n)
  | alertEndSpecific n source => exact hword (windowOnly_endAlertOf s n _)
  | alertMask n data => exact hword (windowOnly_alertMaskWrite s n data)
  | exceptionMask n data => exact hword (windowOnly_excMaskWrite s n data)
  | viewSelect n page index => exact hword (windowOnly_selectView s n page index)
  | viewData n => exact hword (windowOnly_readView s n)
  | tallyLatch n => exact hword (windowOnly_latchTallies s n)
  | tally n which => exact hword (windowOnly_readTally s n which)
  | claimWordWrite n word data => exact hcommand (orderly_claimWrite s n word data)
  | powerOn => exact answersOrderly (orderly_resetBy s .power)
  | resetLine => exact answersOrderly (orderly_resetBy s .line)

/-- Settles O2: every row answers a next state, and none touches the queue. -/
theorem everyCommandAnswersNext : Obligations.EveryCommandAnswersNext := fun c s =>
  have ⟨u, hu, h⟩ := exec_answersOrderly c s
  ⟨u, hu, h.pending⟩

/-- A step keeps every order; it takes a command off the queue, which no order reads. -/
theorem step_keeps_orders (hstep : step s = .next u) :
    (s.RingOk → u.RingOk) ∧ (s.LanesOk → u.LanesOk) ∧ (s.InServiceOk → u.InServiceOk) ∧ (s.PointersOk → u.PointersOk) ∧
    (seqsBelow s.log.records s.log.nextSeq → seqsBelow u.log.records u.log.nextSeq) ∧
    (TalliesBound s.tallies → TalliesBound u.tallies) := by
  unfold step at hstep
  split at hstep
  · cases hstep
    exact ⟨id, id, id, id, id, id⟩
  · next c rest _ =>
    obtain ⟨v, hv, h⟩ := exec_answersOrderly c { s with pending := rest }
    rw [hv] at hstep
    cases hstep
    exact ⟨h.ring, h.lanes, h.service, h.pointers, h.seqs, h.tallies⟩

/-- Settles O54: each order separately. -/
theorem stepKeepsOrders : Obligations.StepKeepsOrders := by
  refine ⟨fun s u hstep => ?_, fun s u hstep => ?_, fun s u hstep => ?_⟩
  all_goals obtain ⟨hring, hlanes, hservice, hpointers, hseqs, htallies⟩ := step_keeps_orders hstep
  · exact ⟨hring, hlanes, hservice, hpointers⟩
  · exact hseqs
  · exact htallies

end Sys2Proof.Machine.StepOrders
end

section
/-! The two resets (R22): every Default, and the invariants after them. -/

namespace Sys2Proof.Machine.Resets

open LotStates ReelSupply KeyPool LotAccounting Coherence

theorem exec_powerOn (s : State) : exec .powerOn s = .next (s.resetBy .power) := rfl

theorem exec_resetLine (s : State) : exec .resetLine s = .next (s.resetBy .line) := rfl

theorem reelDebouncer_afterReset (d : ReelDebouncer) :
    d.afterReset = if d = .absent then .absent else .settling := by
  cases d <;> rfl

theorem debouncer_afterReset (d : Debouncer) : d.afterReset = if d = .low then .low else .settling 0 := by
  cases d <;> rfl

/-- What a reset leaves of the sites, the lanes and what is kept for each of them. -/
theorem resetBy_site (s : State) (c : ResetCause) (n : Site) :
    (s.resetBy c).sites[n] = ⟨.vacant, Vector.replicate 4 none, none, 0, Vector.replicate 2 none, false, .none⟩ ∧
    (s.resetBy c).timers[n] =
      ⟨if s.timers[n].debouncer = .low then .low else .settling 0, .stopped, .stopped, .stopped⟩ ∧
    (s.resetBy c).lanes[n] = ⟨.idle, .stopped, none⟩ ∧ (s.resetBy c).exc.sticky[n] = Vector.replicate 7 false ∧
    (s.resetBy c).pointers[n] = ⟨.lot, 0⟩ ∧ (s.resetBy c).latches[n] = none := by
  refine ⟨perSite_replicate _ n, ?_, perSite_replicate _ n, perSite_replicate _ n, perSite_replicate _ n,
    perSite_replicate _ n⟩
  rw [← debouncer_afterReset]
  exact perSite_ofFn _ n

theorem resetBy_supply (s : State) (c : ResetCause) :
    (s.resetBy c).supply = ⟨.free, false, none, false, none, none, 0, false,
      if s.supply.debouncer = .absent then .absent else .settling⟩ := by
  rw [← reelDebouncer_afterReset]
  rfl

/-- Settles O3: the reset of each row, block by block. -/
theorem resetsGiveEveryDefault : Obligations.ResetsGiveEveryDefault := by
  intro s c cause hc
  refine ⟨s.resetBy cause, ?_, rfl, resetBy_supply s cause, rfl, resetBy_site s cause, rfl, rfl, rfl, rfl, rfl, rfl, rfl,
    rfl, rfl⟩
  rcases hc with ⟨rfl, rfl⟩ | ⟨rfl, rfl⟩
  · exact exec_powerOn s
  · exact exec_resetLine s

/-- The model's first state is the one that power-on leaves of it. -/
theorem resetBy_reset : State.reset.resetBy .power = State.reset := by
  have htimers : (State.reset.resetBy .power).timers = State.reset.timers := perSite_ext fun n => by
    obtain ⟨-, htimer, -⟩ := resetBy_site State.reset .power n
    have hlow : State.reset.timers[n] = ⟨.low, .stopped, .stopped, .stopped⟩ := perSite_replicate _ n
    rw [htimer, hlow]
    rfl
  show { State.reset with timers := (State.reset.resetBy .power).timers } = State.reset
  rw [htimers]

theorem latchesFollow_resetBy (s : State) (c : ResetCause) : (s.resetBy c).LatchesFollow := by
  intro src _ _ _
  cases src <;> rfl

theorem pointersOk_resetBy (s : State) (c : ResetCause) : (s.resetBy c).PointersOk := by
  intro n
  obtain ⟨-, -, -, -, hpointer, -⟩ := resetBy_site s c n
  rw [hpointer]
  decide

/-- Settles O4: each invariant after a reset, and the first state as one. -/
theorem invariantsHoldAfterReset : Obligations.InvariantsHoldAfterReset := by
  intro t ht
  obtain ⟨s, c, rfl⟩ : ∃ s c, t = State.resetBy s c := by
    rcases ht with rfl | ⟨s, hs | hs⟩
    · exact ⟨State.reset, .power, resetBy_reset.symm⟩
    · cases hs
      exact ⟨s, .power, rfl⟩
    · cases hs
      exact ⟨s, .line, rfl⟩
  have hbounded : Bounded True True (s.resetBy c) := bounded_resetBy s c
  exact ⟨(sound_resetBy s c).coherent (ledger_resetBy s c), hbounded.attemptsOk, hbounded.imageOk, pointersOk_resetBy s c,
    List.Pairwise.nil, (serialsApart_iff _).1 (serialsApart_resetBy s c), trivial, settled_of_noLot (.inl rfl),
    latchesFollow_resetBy s c⟩

end Sys2Proof.Machine.Resets
end

section
/-! Requests up to their role (R3 to R12, R170, R171, R191): the address check, busy lanes, contact, the lot states, and the
frames. -/

namespace Sys2Proof.Machine.LaneRequests

open LotStates

variable {s : State} {n : Site}

/-! ## The lot states in which a table is in force (R24) -/

theorem imageInForce_of_boot (h : s.lot.state = .unloaded ∨ s.lot.state = .loading) :
    s.lot.state.imageInForce = false := by
  rcases h with h | h <;> rw [h] <;> rfl

theorem imageInForce_of_lot (h : s.lot.state = .opened ∨ s.lot.state = .draining ∨ s.lot.state = .closed ∨
    s.lot.state = .halted) : s.lot.state.imageInForce = true := by
  rcases h with h | h | h | h <;> rw [h] <;> rfl

theorem image_eq {im : LotImage} (h : s.lot.image = some im) : s.image = im := by
  rw [State.image, h]
  rfl

theorem checkMode_boot (h : s.lot.state.imageInForce = false) : s.checkMode = .none := by
  rw [State.checkMode, h]
  rfl

theorem checkMode_image (h : s.lot.state.imageInForce = true) : s.checkMode = s.image.checkMode := by
  rw [State.checkMode, if_pos h]

theorem responseLimit_boot (h : s.lot.state.imageInForce = false) : s.responseLimit = 100 := by
  rw [State.responseLimit, h]
  rfl

theorem responseLimit_image (h : s.lot.state.imageInForce = true) : s.responseLimit = s.image.responseLimit := by
  rw [State.responseLimit, if_pos h]

/-! ## Classification, step by step (R4) -/

theorem request_busy (h : s.lanes[n].state ≠ .idle) (k : Kind) (a : Address) (data : Word) :
    s.request n k a data = s.busy n := if_neg h

theorem request_parity (hidle : s.lanes[n].state = .idle) {a : Address} (hcheck : s.checkMode.passes a = false)
    (k : Kind) (data : Word) : s.request n k a data = (s.answer n .parity).raiseExc n .parity := by
  rw [State.request, if_pos hidle, State.classify, hcheck]
  rfl

theorem request_claim (hidle : s.lanes[n].state = .idle) {a : Address} (hcheck : s.checkMode.passes a = true)
    {w : Fin 16} (hword : s.claimWord (s.checkMode.dieAddress a) = some w) (k : Kind) (data : Word) :
    s.request n k a data =
      match k with
      | .read => s.claimRead n w
      | .write => s.claimWrite n w data := by
  rw [State.request, if_pos hidle, State.classify, hcheck]
  dsimp only
  rw [hword]
  rfl

theorem request_detached {a : Address} (h : s.PassesWindow n a) (hcontact : s.timers[n].debouncer ≠ .established)
    (k : Kind) (data : Word) : s.request n k a data = s.answer n .detached := by
  obtain ⟨hidle, hcheck, hword⟩ := h
  rw [State.request, if_pos hidle, State.classify, hcheck]
  dsimp only
  rw [hword]
  exact if_neg hcontact

theorem request_byLot {a : Address} (h : s.PassesWindow n a) (hcontact : s.timers[n].debouncer = .established)
    (k : Kind) (data : Word) : s.request n k a data = s.byLot n k a (s.checkMode.dieAddress a) data := by
  obtain ⟨hidle, hcheck, hword⟩ := h
  rw [State.request, if_pos hidle, State.classify, hcheck]
  dsimp only
  rw [hword]
  exact if_pos hcontact

/-! ## The address check (R3, R5) -/

theorem ones_eq_length_filter (a : Address) : ones a = ((List.range 16).filter (a.getLsbD ·)).length :=
  List.countP_eq_length_filter

theorem passes_even_iff (a : Address) :
    CheckMode.even.passes a = true ↔ ((List.range 16).filter (a.getLsbD ·)).length % 2 = 0 := by
  rw [← ones_eq_length_filter]
  exact beq_iff_eq

theorem passes_odd_iff (a : Address) :
    CheckMode.odd.passes a = true ↔ ((List.range 16).filter (a.getLsbD ·)).length % 2 = 1 := by
  rw [← ones_eq_length_filter]
  exact beq_iff_eq

/-- The low 15 bits of an address field. -/
theorem toNat_low_bits (a : Address) : (a &&& 0x7FFF).toNat = a.toNat % 0x8000 := by
  rw [BitVec.toNat_and]
  exact Nat.and_two_pow_sub_one_eq_mod a.toNat 15

/-- Settles O5: the mode in force, what it passes, and the request that fails it. -/
theorem addressCheck : Obligations.AddressCheck := by
  refine ⟨⟨fun s => ⟨fun hboot => checkMode_boot (imageInForce_of_boot hboot), fun hlot im him => ?_⟩, fun a =>
    ⟨⟨rfl, rfl⟩, passes_even_iff a, passes_odd_iff a, toNat_low_bits a, toNat_low_bits a⟩⟩,
    fun s n kindByte a data hidle hcheck => ?_, fun s a hboot => ?_⟩
  · rw [checkMode_image (imageInForce_of_lot hlot), image_eq him]
  · rw [exec_dalRequest, request_parity hidle hcheck]
  · rw [checkMode_boot (imageInForce_of_boot hboot)]
    rfl

/-! ## Lanes that are not IDLE, and sites without contact (R7, R17) -/

theorem exec_requestLane_busy {c : Instr} (hc : requestLane c = some n) (h : s.lanes[n].state ≠ .idle) :
    exec c s = .next (s.busy n) := by
  cases c
  case dalRequest m kindByte address data =>
    cases hc
    exact congrArg _ (request_busy h _ _ _)
  case load | close | release | lowest | mask | clearChecked | clearUnchecked | alertTake | alertEndNonSpecific |
      alertEndSpecific | alertMask | exceptionMask | viewSelect | viewData | tallyLatch | tally | claimWordWrite =>
    cases hc
    exact congrArg _ (onIdleLane_busy h _)
  all_goals cases hc

/-- Settles O6: BUSY by the row, and DETACHED by step 3 of the classification. -/
theorem nonIdleLanesAndDetachedSites : Obligations.NonIdleLanesAndDetachedSites := by
  refine ⟨fun c n s hc hbusy => exec_requestLane_busy hc hbusy, fun s n kindByte a data hpasses hcontact => ?_⟩
  rw [exec_dalRequest, request_detached hpasses hcontact]

/-! ## Forwarding and frames (R12, R191) -/

/-- DAL_REQUEST with any frame. -/
theorem exec_dalRequest_frame (s : State) (n : Site) (b0 b1 b2 : Byte) (rest : List Byte) :
    exec (.dalRequest n b0 #v[b1, b2] rest) s =
      .next (s.request n (requestKind (b0 :: b1 :: b2 :: rest)) (requestAddress (b0 :: b1 :: b2 :: rest))
        (requestData (b0 :: b1 :: b2 :: rest))) := rfl

theorem kind_ofByte (b : Byte) : Kind.ofByte b = if b.getLsbD 0 then .write else .read := by
  have hbit : b.getLsbD 0 = decide (b.toNat % 2 = 1) := by
    rw [BitVec.getLsbD, Nat.testBit_zero]
  rw [Kind.ofByte, hbit]
  rcases Nat.mod_two_eq_zero_or_one b.toNat with h | h <;> rw [h] <;> rfl

theorem requestOf_read {b0 : Byte} (h : b0.getLsbD 0 = false) (n : Site) (a : Address) (data : Word) :
    requestOf n b0 a data = .dalRequest n b0 #v[a.extractLsb' 8 8, a.extractLsb' 0 8] [] := by
  rw [requestOf, kind_ofByte, h]
  rfl

theorem requestOf_write {b0 : Byte} (h : b0.getLsbD 0 = true) (n : Site) (a : Address) (data : Word) :
    requestOf n b0 a data = .dalRequest n b0 #v[a.extractLsb' 8 8, a.extractLsb' 0 8] (dataBytes data) := by
  rw [requestOf, kind_ofByte, h]
  rfl

/-- The bytes of an address field, as they stand in it. -/
theorem addressBytes_append (x y : Byte) : (x ++ y).extractLsb' 8 8 = x ∧ (x ++ y).extractLsb' 0 8 = y := by
  have hx := x.isLt
  have hy := y.isLt
  constructor <;> apply BitVec.eq_of_toNat_eq <;>
    rw [BitVec.extractLsb'_toNat, toNat_append_byte, Nat.shiftRight_eq_div_pow] <;> omega

/-- The bytes of a word, as they stand in it. -/
theorem dataBytes_append (x y z w : Byte) : dataBytes (x ++ y ++ z ++ w) = [x, y, z, w] := by
  have hx := x.isLt
  have hy := y.isLt
  have hz := z.isLt
  have hw := w.isLt
  simp only [dataBytes, List.cons.injEq, and_true, ← BitVec.toNat_inj, BitVec.extractLsb'_toNat, toNat_append_byte,
    Nat.shiftRight_eq_div_pow]
  omega

/-- An arriving READ (R191). -/
theorem frame_read {b0 : Byte} (h : b0.getLsbD 0 = false) (b1 b2 : Byte) :
    requestKind [b0, b1, b2] = .read ∧ requestAddress [b0, b1, b2] = b1 ++ b2 ∧
    ∀ n data, requestOf n b0 (b1 ++ b2) data = .dalRequest n b0 #v[b1, b2] [] := by
  obtain ⟨hhigh, hlow⟩ := addressBytes_append b1 b2
  refine ⟨?_, requestAddress_cons b0 b1 b2 [], fun n data => ?_⟩
  · exact (kind_ofByte b0).trans (by rw [h]; rfl)
  · rw [requestOf_read h, hhigh, hlow]

/-- An arriving WRITE (R191). -/
theorem frame_write {b0 : Byte} (h : b0.getLsbD 0 = true) (b1 b2 b3 b4 b5 b6 : Byte) :
    requestKind [b0, b1, b2, b3, b4, b5, b6] = .write ∧ requestAddress [b0, b1, b2, b3, b4, b5, b6] = b1 ++ b2 ∧
    requestData [b0, b1, b2, b3, b4, b5, b6] = b3 ++ b4 ++ b5 ++ b6 ∧
    ∀ n, requestOf n b0 (b1 ++ b2) (b3 ++ b4 ++ b5 ++ b6) = .dalRequest n b0 #v[b1, b2] [b3, b4, b5, b6] := by
  obtain ⟨hhigh, hlow⟩ := addressBytes_append b1 b2
  refine ⟨?_, requestAddress_cons b0 b1 b2 _, requestData_cons b0 #v[b1, b2] b3 b4 b5 b6, fun n => ?_⟩
  · exact (kind_ofByte b0).trans (by rw [h]; rfl)
  · rw [requestOf_write h, hhigh, hlow, dataBytes_append]

theorem request_bytes_read (b1 b2 : Byte) (data : Option Word) :
    (Request.mk .read (b1 ++ b2) data).bytes = [0, b1, b2] := by
  rw [Request.bytes, bytesOfNat_two]

theorem request_bytes_write (b1 b2 b3 b4 b5 b6 : Byte) :
    (Request.mk .write (b1 ++ b2) (some (b3 ++ b4 ++ b5 ++ b6))).bytes = [1, b1, b2, b3, b4, b5, b6] := by
  rw [Request.bytes, Option.getD_some, bytesOfNat_two, bytesOfNat_four]
  rfl

theorem response_bytes_data (b1 b2 b3 b4 : Byte) :
    (Response.mk .ok (some (b1 ++ b2 ++ b3 ++ b4))).bytes = [0, b1, b2, b3, b4] := by
  show BitVec.ofNat 8 0 :: bytesOfNat 4 (b1 ++ b2 ++ b3 ++ b4).toNat = _
  rw [bytesOfNat_four]
  rfl

/-- A response without data is its status code, which is at most 7. -/
theorem response_bytes_status (st : Status) :
    ∃ code : Byte, (Response.mk st none).bytes = [code] ∧ code.toNat = st.code ∧ code.toNat ≤ 7 := by
  refine ⟨BitVec.ofNat 8 st.code, rfl, ?_⟩
  cases st <;> decide

/-- Settles O8: forwarding is its definition, the limit is read by lot state, and each frame is taken apart byte by byte. -/
theorem forwardingAndFrames : Obligations.ForwardingAndFrames := by
  refine ⟨fun _ _ _ _ => rfl, fun s => ⟨fun hboot => responseLimit_boot (imageInForce_of_boot hboot),
    fun hlot im him => ?_⟩, exec_dalRequest_frame, fun b0 b1 b2 b3 b4 b5 b6 => ⟨fun h => frame_read h b1 b2,
    fun h => frame_write h b1 b2 b3 b4 b5 b6, fun _ => rfl, responseData_cons b0 b1 b2 b3 b4, request_bytes_read b1 b2,
    request_bytes_write b1 b2 b3 b4 b5 b6, response_bytes_data b1 b2 b3 b4, response_bytes_status⟩⟩
  rw [responseLimit_image (imageInForce_of_lot hlot), image_eq him]

/-! ## By lot state, and by role alone (R8 to R10) -/

theorem byLot_unloaded (h : s.lot.state = .unloaded) (k : Kind) (a d : Address) (data : Word) :
    s.byLot n k a d data = s.forward n (transactionOf k a d .none none) (k.data data) := by
  rw [State.byLot, h]

theorem byLot_loading (h : s.lot.state = .loading) (k : Kind) (a d : Address) (data : Word) :
    s.byLot n k a d data = s.answer n .retry := by
  rw [State.byLot, h]

theorem kind_data_eq (k : Kind) (data : Word) : k.data data = if k = .read then none else some data := by
  cases k <;> rfl

/-- A READ that the lane forwards unobserved, by role NONE and ARM. -/
theorem byRole_read_plain {role : Role} (h : role = .none ∨ role = .arm) (a d : Address) (o : Option Nat) (data : Word) :
    s.byRole n (transactionOf .read a d role o) data = s.forward n (transactionOf .read a d role o) none := by
  rcases h with rfl | rfl <;> rfl

/-- A READ that the lane forwards observed, by role IDENT, STATUS and CHECK. -/
theorem byRole_read_observed {role : Role} (h : role = .ident ∨ role = .status ∨ role = .check) (a d : Address)
    (o : Option Nat) (data : Word) :
    s.byRole n (transactionOf .read a d role o) data =
      s.forward n { transactionOf .read a d role o with observed := true } none := by
  rcases h with rfl | rfl | rfl <;> rfl

/-- A WRITE that the lane forwards unobserved. -/
theorem byRole_write_plain {role : Role} {data : Word} (h : role = .none ∨ role = .ident ∨ role = .status ∨
    role = .check ∨ (role = .arm ∧ data ≠ s.image.arm)) (a d : Address) (o : Option Nat) :
    s.byRole n (transactionOf .write a d role o) data = s.forward n (transactionOf .write a d role o) (some data) := by
  rcases h with rfl | rfl | rfl | rfl | ⟨rfl, hdata⟩
  iterate 4 rfl
  exact if_neg hdata

/-- Settles O9: by the lot state alone before a lot is open, and by the role alone with a table in force. -/
theorem requestsByLotStateAndRole : Obligations.RequestsByLotStateAndRole := by
  refine ⟨fun s n kindByte a data hpasses hcontact => ?_, fun s n kindByte a data role offset hreaches =>
    ⟨fun hread hrole => ?_, fun hread hrole => ?_, fun hread hrole => ?_, fun hwrite hrole => ?_⟩⟩
  · rw [exec_dalRequest, request_byLot hpasses hcontact]
    exact ⟨fun hlot => by rw [byLot_unloaded hlot, kind_data_eq]; rfl, fun hlot => by rw [byLot_loading hlot]⟩
  · rw [exec_dalRequest_role hread (hread ▸ hreaches), byRole_read_plain hrole]
    rfl
  · rw [exec_dalRequest_role hread (hread ▸ hreaches), byRole_read_observed hrole]
    rfl
  · rw [exec_dalRequest_role hread (hread ▸ hreaches), hrole]
    rfl
  · rw [exec_dalRequest_role hwrite (hwrite ▸ hreaches), byRole_write_plain hrole]
    rfl

end Sys2Proof.Machine.LaneRequests
end

section
/-! The claim window and the window table in force (R6, R9, R170, R171, R174, R193), and the row that a claim-window request
is. -/

namespace Sys2Proof.Machine.ClaimRequests

open LotStates KeyPool LaneRequests

variable {s : State} {n : Site}

/-! ## The windows (R6, R9, R170) -/

/-- The first entry with a property, by index. -/
theorem find?_toList_eq_some {α : Type} {k : Nat} {p : α → Bool} {v : Vector α k} {i : Fin k} (hi : p v[i] = true)
    (hfirst : ∀ j : Fin k, j < i → p v[j] = false) : v.toList.find? p = some v[i] := by
  refine List.find?_eq_some_iff_getElem.2 ⟨hi, i.val, by simp, by simp, fun j hj => ?_⟩
  have hbefore := hfirst ⟨j, by omega⟩ hj
  simpa using hbefore

theorem find?_toList_eq_none {α : Type} {k : Nat} {p : α → Bool} {v : Vector α k} (h : ∀ i : Fin k, p v[i] = false) :
    v.toList.find? p = none := by
  refine List.find?_eq_none.2 fun x hx => ?_
  obtain ⟨i, hi, rfl⟩ := List.mem_iff_getElem.1 hx
  have hat := h ⟨i, by simpa using hi⟩
  simpa using hat

/-- The word a die address names, in the window from `base` (R170). -/
theorem claimWord_eq_some_iff {base : Nat} (h : s.claimBase = some base) (d : Address) (w : Fin 16) :
    s.claimWord d = some w ↔ d.toNat = base + w.val := by
  have hw := w.isLt
  rw [State.claimWord, h]
  dsimp only
  rw [Option.ite_none_right_eq_some, Option.some.injEq, ← Fin.val_inj, Fin.val_ofNat]
  omega

theorem claimBase_boot (h : s.lot.state.imageInForce = false) : s.claimBase = some 0xFFF0 := by
  rw [State.claimBase, h]
  rfl

theorem claimBase_image (h : s.lot.state.imageInForce = true) {i : Fin 16} (hi : s.image.table[i].role = .claim)
    (hfirst : ∀ j : Fin 16, j < i → s.image.table[j].role ≠ .claim) :
    s.claimBase = some s.image.table[i].base.toNat := by
  rw [State.claimBase, if_pos h, find?_toList_eq_some (p := fun e : WindowEntry => e.role == .claim)
    (beq_iff_eq.2 hi) fun j hj => beq_eq_false_iff_ne.2 (hfirst j hj)]
  rfl

/-- The access of a GUARD entry covers the kind (R25). -/
theorem covers_iff (access : Option Access) (k : Kind) :
    (access.map (·.covers k)).getD false = true ↔
      access = some .both ∨ (k = .read ∧ access = some .read) ∨ (k = .write ∧ access = some .write) := by
  rcases access with _ | access
  · simp
  · cases access <;> cases k <;> simp [Access.covers]

/-- An entry matches a request (R9). -/
theorem isMatch_iff (e : WindowEntry) (k : Kind) (d : Address) :
    e.isMatch k d = true ↔
      e.role ≠ .none ∧ e.base.toNat ≤ d.toNat ∧ d.toNat < e.base.toNat + e.length ∧
      (e.role = .guard →
        e.access = some .both ∨ (k = .read ∧ e.access = some .read) ∨ (k = .write ∧ e.access = some .write)) := by
  rw [← covers_iff]
  simp only [WindowEntry.isMatch, Bool.and_eq_true, bne_iff_ne, decide_eq_true_eq, Bool.or_eq_true, and_assoc,
    Classical.or_iff_not_imp_left, not_not]

theorem window_some {k : Kind} {d : Address} {i : Fin 16} (hi : s.image.table[i].isMatch k d = true)
    (hfirst : ∀ j : Fin 16, j < i → s.image.table[j].isMatch k d = false) :
    s.window k d = (s.image.table[i].role, some (d.toNat - s.image.table[i].base.toNat)) := by
  rw [State.window, find?_toList_eq_some (p := fun e : WindowEntry => e.isMatch k d) hi hfirst]

theorem window_none {k : Kind} {d : Address} (h : ∀ i : Fin 16, s.image.table[i].isMatch k d = false) :
    s.window k d = (.none, none) := by
  rw [State.window, find?_toList_eq_none (p := fun e : WindowEntry => e.isMatch k d) h]

/-- Settles O11: the base in force by lot state, and the first entry that matches. -/
theorem windowsInForce : Obligations.WindowsInForce := by
  refine ⟨fun s d => ⟨fun hboot w => claimWord_eq_some_iff (claimBase_boot (imageInForce_of_boot hboot)) d w,
    fun hlot i hi hfirst w => claimWord_eq_some_iff (claimBase_image (imageInForce_of_lot hlot) hi hfirst) d w⟩,
    fun s k d => ⟨fun i hi hfirst => ?_, fun hnone => ?_⟩⟩
  · exact window_some ((isMatch_iff _ k d).2 hi) fun j hj => Bool.not_eq_true _ ▸ mt (isMatch_iff _ k d).1 (hfirst j hj)
  · exact window_none fun i => Bool.not_eq_true _ ▸ mt (isMatch_iff _ k d).1 (hnone i)

/-! ## The row of a claim-window request (R171, R174, R193) -/

/-- The command code of a WRITE to COMMAND. -/
theorem field_code (data : Word) : field data 31 24 = data.toNat / 2 ^ 24 := by
  have hdata := data.isLt
  rw [field]
  omega

theorem field_arg (data : Word) : field data 7 0 = data.toNat % 256 := by
  rw [field]
  omega

theorem field_source (data : Word) : field data 2 0 = data.toNat % 8 := by
  rw [field]
  omega

theorem field_page (data : Word) : field data 11 8 = data.toNat / 256 % 16 := rfl

/-- A READ that has a row is that row. -/
theorem exec_row_read {w : Fin 16} {data : Word} {c : Instr} (h : rowOfClaimRequest n .read w data = some c) :
    exec c s = .next (s.onIdleLane n (s.claimRead n w)) := by
  fin_cases w <;> simp only [rowOfClaimRequest, reduceCtorEq, Option.some.injEq] at h <;> subst h <;> rfl

/-- A WRITE to COMMAND is the row of its code. -/
theorem exec_row_command {data : Word} {c : Instr} (h : rowOfClaimRequest n .write 2 data = some c) :
    exec c s = .next (s.onIdleLane n (s.claimWrite n 2 data)) := by
  have hwrite : s.claimWrite n 2 data = s.commandWrite n data := rfl
  have hword : ((2 : Fin 16) : Nat) = 2 := rfl
  simp only [rowOfClaimRequest, hword] at h
  split at h
  case h_8 =>
    cases h
    rfl
  all_goals
    next hcode =>
      cases h
      rw [hwrite, State.commandWrite, field_code, field_arg, hcode]
      rfl

/-- A WRITE to ALERT END is the row of its bit 31. -/
theorem exec_row_alertEnd {data : Word} {c : Instr} (h : rowOfClaimRequest n .write 4 data = some c) :
    exec c s = .next (s.onIdleLane n (s.claimWrite n 4 data)) := by
  have hwrite : s.claimWrite n 4 data = s.alertEndWrite n data := rfl
  have hword : ((4 : Fin 16) : Nat) = 4 := rfl
  simp only [rowOfClaimRequest, hword] at h
  rw [hwrite, State.alertEndWrite, field_source]
  split at h <;> cases h
  · next hspecific =>
    rw [if_pos hspecific]
    rfl
  · next hspecific =>
    rw [if_neg hspecific]
    rfl

/-- A WRITE to VIEW SELECT is the row of its page and index. -/
theorem exec_row_viewSelect {data : Word} {c : Instr} (h : rowOfClaimRequest n .write 7 data = some c) :
    exec c s = .next (s.onIdleLane n (s.claimWrite n 7 data)) := by
  have hwrite : s.claimWrite n 7 data =
      s.selectView n (BitVec.ofNat 4 (field data 11 8)) (BitVec.ofNat 8 (field data 7 0)) := rfl
  have hword : ((7 : Fin 16) : Nat) = 7 := rfl
  simp only [rowOfClaimRequest, hword, Option.some.injEq] at h
  rw [hwrite, field_page, field_arg, ← h]
  rfl

/-- A WRITE is the row that its word and data name. -/
theorem exec_row_write {w : Fin 16} {data : Word} {c : Instr} (h : rowOfClaimRequest n .write w data = some c) :
    exec c s = .next (s.onIdleLane n (s.claimWrite n w data)) := by
  match w, h with
  | 2, h => exact exec_row_command h
  | 4, h => exact exec_row_alertEnd h
  | 7, h => exact exec_row_viewSelect h
  | 0, h | 1, h | 3, h | 5, h | 6, h | 8, h | 9, h | 10, h | 11, h | 12, h | 13, h | 14, h | 15, h =>
    obtain rfl := Option.some.inj h
    rfl
  | ⟨k + 16, hk⟩, _ => exact absurd hk (Nat.not_lt_of_le (Nat.le_add_left 16 k))

/-! ## A READ without a row (R171) -/

/-- ALERT MASK and EXCEPTION MASK as read: a flag for each bit (R193). -/
theorem getLsbD_flags {k : Nat} (flags : Vector Bool k) (i : Fin 32) :
    (place (flagsToNat flags.toList) 0).getLsbD i.val = if h : i.val < k then flags[(⟨i.val, h⟩ : Fin k)] else false := by
  rw [StatusWords.getLsbD_place]
  split
  · next h =>
    have hbit := AlertControl.testBit_flagsToNat (flags := flags.toList) (k := i.val) (by simpa using h)
    simpa using hbit
  · next h =>
    have hbit : (flagsToNat flags.toList).testBit i.val = false := Nat.testBit_lt_two_pow
      ((flagsToNat_toList_lt flags).trans_le (Nat.pow_le_pow_right (by decide) (Nat.le_of_not_lt h)))
    simpa using hbit

theorem page_code_le (p : ViewPage) : p.code ≤ 11 := by
  cases p with
  | site m => exact Nat.le_trans (Nat.le_of_lt m.isLt) (by decide)
  | pool | log | table | lot => decide

theorem page_length_le (p : ViewPage) : p.length ≤ 194 := by
  cases p with
  | site m => exact (by decide : 8 ≤ 194)
  | pool | log | table | lot => decide

/-- VIEW SELECT as read (R193). -/
theorem toNat_pointer_word {p : ViewPointer} (h : p.index < p.page.length) :
    p.word.toNat = p.page.code * 256 + p.index := by
  have hcode := page_code_le p.page
  have hlength := page_length_le p.page
  have hpage : (place p.page.code 8).toNat = 2 ^ 8 * p.page.code := toNat_place (by omega)
  rw [ViewPointer.word, toNat_or_place_below 8 hpage (Nat.dvd_mul_right _ _) (by omega) (by decide)]
  omega

/-- A READ without a row: OK with the word's value. -/
theorem claimRead_value {w : Fin 16} {data : Word} (h : rowOfClaimRequest n .read w data = none) :
    ∃ v : Word, s.claimRead n w = s.answer n .ok (some v) ∧
      (w = 0 → v = 0x3A90B801) ∧ (w = 1 → v = s.lotStateWord) ∧ (w = 2 ∨ w = 4 ∨ w = 9 → v = 0) ∧
      (w = 5 → ∀ i : Fin 32, v.getLsbD i = if h : i.val < 8 then s.alert.mask[(⟨i.val, h⟩ : Fin 8)] else false) ∧
      (w = 6 → ∀ i : Fin 32, v.getLsbD i = if h : i.val < 7 then s.exc.mask[(⟨i.val, h⟩ : Fin 7)] else false) ∧
      (w = 7 → s.PointersOk → v.toNat = s.pointers[n].page.code * 256 + s.pointers[n].index) ∧
      (w = 15 → v = s.siteSummary) := by
  match w, h with
  | 0, _ => exact ⟨partId, rfl, fun _ => by decide, nofun, by simp, nofun, nofun, nofun, nofun⟩
  | 1, _ => exact ⟨s.lotStateWord, rfl, by simp⟩
  | 2, _ => exact ⟨0, rfl, by simp⟩
  | 4, _ => exact ⟨0, rfl, by simp⟩
  | 9, _ => exact ⟨0, rfl, by simp⟩
  | 5, _ =>
    refine ⟨_, rfl, nofun, nofun, by simp, fun _ => getLsbD_flags s.alert.mask, nofun, nofun, nofun⟩
  | 6, _ =>
    refine ⟨_, rfl, nofun, nofun, by simp, nofun, fun _ => getLsbD_flags s.exc.mask, nofun, nofun⟩
  | 7, _ =>
    refine ⟨_, rfl, nofun, nofun, by simp, nofun, nofun, fun _ hpointers => toNat_pointer_word (hpointers n), nofun⟩
  | 15, _ => exact ⟨s.siteSummary, rfl, by simp⟩
  | 3, h | 8, h | 10, h | 11, h | 12, h | 13, h | 14, h => cases h
  | ⟨k + 16, hk⟩, _ => exact absurd hk (Nat.not_lt_of_le (Nat.le_add_left 16 k))

/-! ## A WRITE without a behaviour of its own (R171, R174) -/

theorem commandWrite_unknown {data : Word} (h : data.toNat / 2 ^ 24 = 0 ∨ 7 < data.toNat / 2 ^ 24) :
    s.commandWrite n data = s.answer n .refused := by
  unfold State.commandWrite
  dsimp only
  rw [field_code]
  split
  case h_8 => rfl
  all_goals
    next hcode =>
      rw [hcode] at h
      exact absurd h (by decide)

theorem claimWrite_bare {w : Fin 16} {data : Word} (h : Instr.isBareClaimWrite w data = true) :
    s.claimWrite n w data = s.answer n .refused := by
  by_cases hword : w = 2
  · subst hword
    refine commandWrite_unknown ?_
    have hcode : (data >>> 24).toNat = data.toNat / 2 ^ 24 := by
      rw [BitVec.toNat_ushiftRight, Nat.shiftRight_eq_div_pow]
    rw [← hcode]
    simpa [Instr.isBareClaimWrite] using h
  · have hlist : w.val ∈ [0, 1, 3, 8, 10, 11, 12, 13, 14, 15] := by
      have hne : (w.val == 2) = false := beq_eq_false_iff_ne.2 fun hval => hword (Fin.ext hval)
      rw [Instr.isBareClaimWrite, hne, Bool.false_and, Bool.or_false, decide_eq_true_eq] at h
      exact h
    unfold State.claimWrite
    split
    case h_7 => rfl
    all_goals
      next hval =>
        rw [hval] at hlist
        exact absurd hlist (by decide)

/-- Every WRITE has a row. -/
theorem row_write_ne_none (w : Fin 16) (data : Word) : rowOfClaimRequest n .write w data ≠ none := by
  unfold rowOfClaimRequest
  dsimp only
  split
  case h_9 => split <;> nofun
  case h_10 => split <;> nofun
  case h_11 | h_12 | h_13 | h_14 | h_15 => exact Option.some_ne_none _
  all_goals exact nomatch ‹Kind.write = Kind.read›

/-- Settles O12: the rows of READs and WRITEs, the words without a row, and the bare WRITEs. -/
theorem claimRequestsAreTheirRows : Obligations.ClaimRequestsAreTheirRows := by
  refine ⟨fun s n kindByte a data w hidle hcheck hword => ?_, fun s n w data hidle hbare => ?_⟩
  · rw [exec_dalRequest, request_claim hidle hcheck hword]
    cases Kind.ofByte kindByte with
    | read =>
      refine ⟨fun c hc => by rw [exec_row_read hc, onIdleLane_idle hidle], fun hnone => ?_⟩
      obtain ⟨v, hv, hvalue⟩ := claimRead_value (s := s) hnone
      exact ⟨v, congrArg _ hv, hvalue⟩
    | write =>
      exact ⟨fun c hc => by rw [exec_row_write hc, onIdleLane_idle hidle],
        fun hnone => absurd hnone (row_write_ne_none w data)⟩
  · have hrow : exec (.claimWordWrite n w data) s = .next (s.onIdleLane n (s.claimWrite n w data)) := rfl
    rw [hrow, onIdleLane_idle hidle, claimWrite_bare hbare]

end Sys2Proof.Machine.ClaimRequests
end

section
/-! The end of a transaction at its lane (R10, R13 to R15, R19, R191): the die's answer, an answer to nothing, and the two
expiries of the lane timer. -/

namespace Sys2Proof.Machine.LaneEndings

open SiteExpiries

variable {s : State} {n : Site}

/-! ## The die's answer (R13) -/

theorem exec_dieResponse (s : State) (n : Site) (statusByte : Byte) (bytes : List Byte) :
    exec (.dieResponse n statusByte bytes) s = execDieResponse n statusByte bytes s := rfl

theorem exec_dieResponse_outbound {statusByte : Byte} {bytes : List Byte} {t : Transaction}
    (hstate : s.lanes[n].state = .outbound) (ht : s.lanes[n].transaction = some t) :
    exec (.dieResponse n statusByte bytes) s =
      .next (s.endTransaction n t (dieStatus statusByte) (responseData (statusByte :: bytes))) := by
  rw [exec_dieResponse, execDieResponse, hstate]
  dsimp only
  rw [ht]
  rfl

/-- A die that answers anything but OK ends the transaction with NAK, whatever data follows. -/
theorem endTransaction_nak (s : State) (n : Site) (t : Transaction) (x : Word) :
    s.endTransaction n t .nak x =
      ((if t.observed then s.outcome n t .nak else s).answer n .nak).setLane n Lane.idle := rfl

/-- A WRITE takes no data of an OK response. -/
theorem endTransaction_write {t : Transaction} (hk : t.kind = .write) (x : Word) :
    s.endTransaction n t .ok x =
      ((if t.observed then s.outcome n t (.ok 0) else s).answer n .ok).setLane n Lane.idle := by
  unfold State.endTransaction dieOutcome upstreamData
  rw [hk]
  rfl

/-- A READ answered OK: the site engine has the die's data, and a CHECK READ sends 0 upstream in its place. -/
theorem endTransaction_read {t : Transaction} (hk : t.kind = .read) (x : Word) :
    s.endTransaction n t .ok x =
      ((if t.observed then s.outcome n t (.ok x) else s).answer n .ok
        (some (if t.role = .check then 0 else x))).setLane n Lane.idle := by
  unfold State.endTransaction dieOutcome upstreamData
  rw [hk]
  rfl

/-- Settles O18: by the status byte, then by the transaction's kind; the frame's data counts for an OK READ alone. -/
theorem dieResponseEndsTheTransaction : Obligations.DieResponseEndsTheTransaction := by
  intro s n statusByte data bytes t hstate ht hbytes
  rw [exec_dieResponse_outbound hstate ht, dieStatus]
  by_cases hok : statusByte = 0
  · simp only [hok, if_true, true_and]
    cases hk : t.kind with
    | write => rw [endTransaction_write hk]; rfl
    | read =>
      have hdata : responseData (0 :: bytes) = data := by
        rcases hbytes with hdata | ⟨-, hno | hwrite⟩
        · rw [hdata, responseData_dataBytes]
        · exact absurd hok hno
        · exact absurd (hk.symm.trans hwrite) nofun
      rw [endTransaction_read hk, hdata]
      rfl
  · simp only [hok, if_false, false_and]
    rw [endTransaction_nak]
    rfl

/-! ## An answer to nothing (R15, R19) -/

/-- Settles O19: by the lane's state. -/
theorem lateResponsesAreDiscarded : Obligations.LateResponsesAreDiscarded := by
  refine fun s n statusByte bytes => ⟨fun hquarantine => ?_, fun hother => ?_⟩
  · rw [exec_dieResponse, execDieResponse, hquarantine]
    rfl
  · rw [exec_dieResponse, execDieResponse]
    rcases hother with hstate | hstate <;> rw [hstate]

/-! ## The lane timer (R14, R15) -/

theorem exec_responseTimerExpiry_last (hstate : s.lanes[n].state = .outbound)
    (hlast : s.lanes[n].timer.lastTick = true) : exec (.responseTimerExpiry n) s = .next (s.responseExpired n) :=
  congrArg _ (if_pos ⟨hstate, hlast⟩)

theorem exec_quietTimerExpiry_last (hstate : s.lanes[n].state = .quarantine)
    (hlast : s.lanes[n].timer.lastTick = true) : exec (.quietTimerExpiry n) s = .next (s.quietExpired n) :=
  congrArg _ (if_pos ⟨hstate, hlast⟩)

/-- The response timer's expiry, with the lane's record written out. -/
theorem responseExpired_of_lane {t : Transaction} {count limit : Nat}
    (hlane : s.lanes[n] = ⟨.outbound, .running count limit, some t⟩) :
    s.responseExpired n =
      State.setLane
        (if t.observed then ((s.answer n .timeout).raiseExc n .timeout).outcome n t .timeout
          else (s.answer n .timeout).raiseExc n .timeout)
        n ⟨.quarantine, .running 0 limit, none⟩ := by
  rw [State.responseExpired, hlane]
  rfl

/-- Settles O20: the lane's record gives the row its state, its last tick, its transaction and its limit. -/
theorem laneTimerExpiries : Obligations.LaneTimerExpiries := by
  refine fun s n count limit hle => ⟨fun t hlane => ?_, fun hlane => ?_⟩
  · have htimer : s.lanes[n].timer = .running count limit := by rw [hlane]
    rw [exec_responseTimerExpiry_last (by rw [hlane]) (lastTick_of_running htimer hle), responseExpired_of_lane hlane]
  · have htimer : s.lanes[n].timer = .running count limit := by rw [hlane]
    rw [exec_quietTimerExpiry_last (by rw [hlane]) (lastTick_of_running htimer hle)]
    rfl

end Sys2Proof.Machine.LaneEndings
end

section
/-! Contact loss (R18, R105, R115): the lane's part as one record of the state, then the site engine's, by the site's
state. -/

namespace Sys2Proof.Machine.ContactLosses

open SiteCoherence SiteExpiries

variable {s : State} {n : Site}

/-! ## The lane's part (R18, R115) -/

/-- Contact lost and the lane IDLE, with DETACHED sent for a transaction in flight or held; the site is as it was. -/
def detached (s : State) (n : Site) : State :=
  { s with
    timers := s.timers.set n { s.timers[n] with debouncer := .low }
    lanes := s.lanes.set n ⟨.idle, .stopped, none⟩
    sent := s.sent ++
      (if s.lanes[n].state = .outbound ∨ s.lanes[n].state = .held then [.upstream n ⟨.detached, none⟩] else []) }

theorem contactLost_eq (h : s.lanes[n].Ok) : contactLost s n = detached s n := by
  unfold detached
  cases hstate : s.lanes[n].state with
  | idle =>
    have hsame : s.lanes.set n ⟨.idle, .stopped, none⟩ = s.lanes := by
      show s.lanes.set n Lane.idle = s.lanes
      rw [← lane_eq_idle h hstate, perSite_set_same]
    rw [if_neg (by simp), List.append_nil, hsame]
    unfold contactLost State.laneLoss
    rw [State.setTimers_lanes, hstate]
    rfl
  | quarantine =>
    rw [if_neg (by simp), List.append_nil]
    unfold contactLost State.laneLoss
    rw [State.setTimers_lanes, hstate]
    rfl
  | outbound =>
    rw [if_pos (Or.inl rfl)]
    unfold contactLost State.laneLoss
    rw [State.setTimers_lanes, hstate]
    rfl
  | held =>
    rw [if_pos (Or.inr rfl)]
    unfold contactLost State.laneLoss
    rw [State.setTimers_lanes, hstate]
    rfl

theorem exec_contactFall_established (hcontact : s.timers[n].debouncer = .established) (h : s.lanes[n].Ok) :
    exec (.contactFall n) s = .next ((detached s n).siteLoss n) := by
  rw [← contactLost_eq h]
  show execContactFall n s = _
  rw [execContactFall, hcontact]
  rfl

/-! ## The site engine's part (R105) -/

theorem siteLoss_keyless (h : s.sites[n].state = .vacant ∨ s.sites[n].state = .blanked ∨ s.sites[n].state = .finished ∨
    s.sites[n].state = .fault ∨ (s.sites[n].state = .ready ∧ s.pool.waiting[n] = false)) :
    s.siteLoss n = s.setSite n { s.sites[n] with state := .vacant } := by
  unfold State.siteLoss
  rcases h with hstate | hstate | hstate | hstate | ⟨hstate, hwaiting⟩ <;> rw [hstate]
  case inr.inr.inr.inr =>
    rw [hwaiting]
    rfl
  all_goals rfl

theorem siteLoss_waiting (hstate : s.sites[n].state = .ready) (hwaiting : s.pool.waiting[n] = true) :
    s.siteLoss n = ((((s.setWaiting n false).stopKeyWait n).releaseRes).vacate n).finish := by
  unfold State.siteLoss
  rw [hstate]
  exact if_pos hwaiting

theorem siteLoss_staging (hstate : s.sites[n].state = .staging) :
    s.siteLoss n = (s.endStaging n .lift .vacant .vacant).finish := by
  unfold State.siteLoss
  rw [hstate]

theorem siteLoss_burning (hstate : s.sites[n].state = .armed ∨ s.sites[n].state = .programmed) :
    s.siteLoss n = (s.spoil n .lift .vacant).finish := by
  unfold State.siteLoss
  rcases hstate with hstate | hstate <;> rw [hstate]

/-- A waiting site that loses contact, its lane's part taken: the two writes of its timers are one. -/
theorem siteLoss_detached_waiting (hstate : s.sites[n].state = .ready) (hwaiting : s.pool.waiting[n] = true) :
    (detached s n).siteLoss n =
      State.finish
        { detached s n with
          pool := { s.pool with waiting := s.pool.waiting.set n false }
          timers := s.timers.set n { s.timers[n] with debouncer := .low, keyWait := .stopped }
          log := { s.log with reservations := s.log.reservations - 1 }
          sites := s.sites.set n { s.sites[n] with state := .vacant } } := by
  have htimers : ((detached s n).stopKeyWait n).timers =
      s.timers.set n { s.timers[n] with debouncer := .low, keyWait := .stopped } := by
    show (s.timers.set n _).set n { (s.timers.set n _)[n] with keyWait := .stopped } = _
    rw [perSite_set_self, Vector.set_set]
  rw [siteLoss_waiting (s := detached s n) hstate hwaiting, ← htimers]
  rfl

/-- Settles O29: the lane's part first, then the site engine's by the site's state. -/
theorem contactLoss : Obligations.ContactLoss := by
  intro s n hcontact hlane lost
  have hlost : lost = detached s n := rfl
  rw [exec_contactFall_established hcontact hlane, hlost]
  refine ⟨fun hkeyless => ?_, fun hready hwaiting => ?_, fun b hstaging hb => ⟨fun hreached => ?_, fun hexposed hflight => ?_⟩,
    fun hburning => ?_⟩
  · rw [siteLoss_keyless (s := detached s n) hkeyless]
    rfl
  · rw [siteLoss_detached_waiting hready hwaiting]
  · rw [siteLoss_staging (s := detached s n) hstaging, endStaging_reached (s := detached s n) hb hreached]
  · rw [siteLoss_staging (s := detached s n) hstaging, endStaging_unreached (s := detached s n) hb hexposed hflight]
  · rw [siteLoss_burning (s := detached s n) hburning]

end Sys2Proof.Machine.ContactLosses
end

section
/-! A tick's expiries, element by element (R111, R112): what has reached its limit on the counted state, what one expiry
leaves of it, and the tick that brings a single element to its limit. -/

namespace Sys2Proof.Machine.TickExpiries

open LotStates SiteCoherence Coherence SiteExpiries LaneEndings ReelSupply SiteEngine

variable {s u v : State} {n : Site}

/-! ## Elements that have reached their limit -/

/-- An element that counts ticks stands at its limit. -/
def reachedAt (s : State) (n : Site) : TickElement → Bool
  | .debounce => s.timers[n].debouncer.reached s.debounce
  | .keyWait => s.timers[n].keyWait.reached
  | .dwell => s.timers[n].dwell.reached
  | .watchdog => s.timers[n].watchdog.reached
  | .lane => s.lanes[n].timer.reached

/-- The elements that the next tick brings to their limits are those that stand there once it has counted. -/
theorem reachedAt_countTick (s : State) (n : Site) (e : TickElement) :
    reachedAt s.countTick n e = s.reachesLimit n e := by
  cases e <;> simp only [reachedAt, State.countTick_timers, State.countTick_lane] <;> rfl

theorem lastTick_iff (t : Timer) : t.lastTick = true ↔ ∃ c l, t = .running c l ∧ l ≤ c + 1 := by
  refine ⟨fun h => ?_, fun ⟨c, l, hrunning, hle⟩ => lastTick_of_running hrunning hle⟩
  cases t with
  | stopped => cases h
  | running c l => exact ⟨c, l, rfl, of_decide_eq_true h⟩

theorem count_reached_iff (d : Debouncer) (limit : Nat) :
    d.count.reached limit = true ↔ ∃ c, d = .settling c ∧ limit ≤ c + 1 := by
  refine ⟨fun h => ?_, fun ⟨c, hsettling, hle⟩ => by rw [hsettling]; exact decide_eq_true hle⟩
  cases d with
  | low => cases h
  | established => cases h
  | settling c => exact ⟨c, rfl, of_decide_eq_true h⟩

/-- A timer at its limit is past it at the next tick too. -/
theorem lastTick_of_reached {t : Timer} (h : t.reached = true) : t.lastTick = true := by
  cases t with
  | stopped => cases h
  | running c l => exact decide_eq_true (Nat.le_succ_of_le (of_decide_eq_true h))

theorem count_reached_of_reached {d : Debouncer} {limit : Nat} (h : d.reached limit = true) :
    d.count.reached limit = true := by
  cases d with
  | low => cases h
  | established => cases h
  | settling c => exact decide_eq_true (Nat.le_succ_of_le (of_decide_eq_true h))

/-- A timer that starts under a limit of at least 1 does not stand at it. -/
theorem reached_start {limit : Nat} (h : 1 ≤ limit) : (Timer.running 0 limit).reached = false :=
  decide_eq_false (Nat.not_le_of_lt h)

/-! ## What brings no element to its limit -/

/-- Nothing stands at its limit in `v` that did not in `u`. -/
def Quietens (u v : State) : Prop := ∀ m e, reachedAt v m e = true → reachedAt u m e = true

theorem Quietens.refl (s : State) : Quietens s s := fun _ _ h => h

theorem Quietens.trans {w : State} (h : Quietens u v) (h' : Quietens v w) : Quietens u w :=
  fun m e hw => h m e (h' m e hw)

theorem Quietens.not_reached (h : Quietens u v) {e : TickElement} (hu : reachedAt u n e = false) :
    reachedAt v n e = false :=
  Bool.eq_false_iff.2 fun hv => Bool.false_ne_true (hu.symm.trans (h n e hv))

theorem quietens_of_frame (htimers : v.timers = u.timers) (hlanes : v.lanes = u.lanes)
    (hdebounce : v.debounce = u.debounce) : Quietens u v := by
  intro m e h
  cases e <;> simpa only [reachedAt, htimers, hlanes, hdebounce] using h

theorem quietens_setTimers {t : SiteTimers}
    (hdebouncer : t.debouncer.reached s.debounce = true → s.timers[n].debouncer.reached s.debounce = true)
    (hkeyWait : t.keyWait.reached = true → s.timers[n].keyWait.reached = true)
    (hdwell : t.dwell.reached = true → s.timers[n].dwell.reached = true)
    (hwatchdog : t.watchdog.reached = true → s.timers[n].watchdog.reached = true) :
    Quietens s (s.setTimers n t) := by
  intro m e h
  by_cases hm : m = n
  · subst hm
    cases e <;> simp only [reachedAt, State.setTimers_timers, perSite_set_self] at h
    · exact hdebouncer h
    · exact hkeyWait h
    · exact hdwell h
    · exact hwatchdog h
    · exact h
  · cases e <;> simp only [reachedAt, State.setTimers_timers, perSite_set_ne _ _ hm] at h <;> exact h

theorem quietens_setLane {l : Lane} (h : l.timer.reached = false) : Quietens s (s.setLane n l) := by
  intro m e hreached
  cases e
  case lane =>
    by_cases hm : m = n
    · subst hm
      simp only [reachedAt, State.setLane_lanes, perSite_set_self, h, Bool.false_eq_true] at hreached
    · simpa only [reachedAt, State.setLane_lanes, perSite_set_ne _ _ hm] using hreached
  all_goals exact hreached

theorem reachedAt_setLane_lane (s : State) (n : Site) {l : Lane} (h : l.timer.reached = false) :
    reachedAt (s.setLane n l) n .lane = false := by
  rwa [reachedAt, State.setLane_lanes, perSite_set_self]

/-! ## The operations of an expiry -/

/-- The limits that an expiry may start timers under are at least 1 (R12, R15, R26). -/
structure Paced (s : State) : Prop where
  response : 1 ≤ s.responseLimit
  dwell : ∀ m : Site, s.pool.waiting[m] = true → 1 ≤ s.image.dwellLimit
  lane : ∀ m : Site, LimitAt s.lanes[m].timer

theorem paced_of_bounded (h : Bounded False True s) : Paced s := by
  refine ⟨h.responseLimit_pos trivial, fun m hm => ?_, h.limits trivial⟩
  obtain ⟨im, him⟩ := Option.isSome_iff_exists.1 (h.waits m hm)
  obtain ⟨⟨⟨-, -, -, hdwell, -⟩, -⟩, -⟩ := h.images trivial im him
  rwa [LaneRequests.image_eq him]

theorem quietens_finish (s : State) : Quietens s s.finish := by
  obtain ⟨-, htimers, hlanes, -⟩ := finish_frame s
  obtain ⟨q, hlot⟩ := finish_lot s
  refine quietens_of_frame htimers hlanes ?_
  unfold State.debounce State.image
  rw [hlot]

theorem quietens_stopKeyWait (s : State) (n : Site) : Quietens s (s.stopKeyWait n) :=
  quietens_setTimers id nofun id id

theorem quietens_stopBurnTimers (s : State) (n : Site) : Quietens s (s.stopBurnTimers n) :=
  quietens_setTimers id id nofun nofun

theorem quietens_forward (h : 1 ≤ s.responseLimit) (t : Transaction) (d : Option Word) :
    Quietens s (s.forward n t d) :=
  Quietens.trans (v := s.send (.downstream n ⟨t.kind, t.addressField, d⟩)) (quietens_of_frame rfl rfl rfl)
    (quietens_setLane (reached_start h))

theorem quietens_bindKey (h : 1 ≤ s.image.dwellLimit) (e : KeyEntry) (offset : Fin 8) :
    Quietens s (s.bindKey n e offset) := by
  have hstart := reached_start h
  exact Quietens.trans (v := s.setSite n _) (quietens_of_frame rfl rfl rfl)
    (quietens_setTimers id id (fun hreached => nomatch hstart.symm.trans hreached) id)

/-- A key handed to a waiting site starts its dwell timer and its lane's response timer, and stops its key-wait timer. -/
theorem quietens_handOut (hresponse : 1 ≤ s.responseLimit) (hdwell : 1 ≤ s.image.dwellLimit) (e : KeyEntry) :
    Quietens s (s.handOut n e) := by
  unfold State.handOut
  extract_lets t s1 pool s2
  have h1 : Quietens s s1 :=
    Quietens.trans (v := s.setWaiting n false) (quietens_of_frame rfl rfl rfl) (quietens_stopKeyWait _ _)
  have h2 : Quietens s s2 := h1.trans (quietens_of_frame rfl rfl rfl)
  have hlimit : 1 ≤ s2.image.dwellLimit := hdwell
  have hbound : Quietens s (s2.bindKey n e t.stageOffset) := h2.trans (quietens_bindKey hlimit e t.stageOffset)
  have hforward : 1 ≤ (s2.bindKey n e t.stageOffset).responseLimit := hresponse
  exact hbound.trans (quietens_forward hforward _ _)

theorem quietens_deliver (hresponse : 1 ≤ s.responseLimit)
    (hdwell : ∀ m : Site, s.pool.waiting[m] = true → 1 ≤ s.image.dwellLimit) (e : KeyEntry) (front : Bool) :
    Quietens s (s.deliver e front) := by
  unfold State.deliver
  split
  · next m hm =>
    have hwaiting : s.pool.waiting[m] = true := List.find?_some (p := fun k : Site => s.pool.waiting[k]) hm
    exact quietens_handOut hresponse (hdwell m hwaiting) e
  · exact quietens_of_frame rfl rfl rfl

theorem quietens_endBinding (s : State) (n : Site) (next : SiteState) (last : LastOutcome) :
    Quietens s (s.endBinding n next last) :=
  Quietens.trans (v := s.setSite n _) (quietens_of_frame rfl rfl rfl) (quietens_stopBurnTimers _ _)

theorem quietens_spoil (s : State) (n : Site) (r : SpoilReason) (next : SiteState) : Quietens s (s.spoil n r next) := by
  unfold State.spoil
  split
  · exact Quietens.refl s
  · exact Quietens.trans (v := State.raiseTally (s.useRes _) .spoiled) (quietens_of_frame rfl rfl rfl)
      (Quietens.trans (quietens_endBinding _ _ _ _) (quietens_of_frame rfl rfl rfl))

theorem Paced.quietens_returnKey (h : Paced s) (n : Site) (next : SiteState) : Quietens s (s.returnKey n next) := by
  unfold State.returnKey
  split
  · exact Quietens.refl s
  · exact Quietens.trans (v := (s.endBinding n next .returned).releaseRes)
      (Quietens.trans (quietens_endBinding _ _ _ _) (quietens_of_frame rfl rfl rfl))
      (quietens_deliver (s := (s.endBinding n next .returned).releaseRes) h.response h.dwell _ _)

theorem Paced.quietens_endStaging (h : Paced s) (n : Site) (r : SpoilReason) (spoiled returned : SiteState) :
    Quietens s (s.endStaging n r spoiled returned) := by
  unfold State.endStaging
  split
  · exact Quietens.refl s
  · split
    · exact quietens_spoil _ _ _ _
    · exact h.quietens_returnKey _ _

/-- A TIMEOUT outcome writes site contexts and nothing else. -/
theorem outcome_timeout_eq (s : State) (n : Site) (t : Transaction) :
    ∃ sites, s.outcome n t .timeout = { s with sites := sites } := by
  unfold State.outcome
  split
  · unfold State.outcomeByRole
    split
    case h_1 => exact ⟨s.sites, identOutcome_timeout _ _ _⟩
    case h_2 =>
      unfold State.stageOutcome
      split
      · exact ⟨_, rfl⟩
      · split <;> exact ⟨_, rfl⟩
    case h_3 =>
      split
      · by_cases harmed : s.sites[n].state = .armed
        · exact ⟨_, armOutcome_counts harmed nofun⟩
        · exact ⟨s.sites, armOutcome_other harmed _⟩
      · exact ⟨_, rfl⟩
    case h_4 => exact ⟨s.sites, statusOutcome_timeout _ _⟩
    case h_5 => exact ⟨s.sites, checkOutcome_timeout _ _ _⟩
    all_goals exact ⟨_, rfl⟩
  · exact ⟨_, rfl⟩

theorem quietens_outcome_timeout (s : State) (n : Site) (t : Transaction) :
    Quietens s (s.outcome n t .timeout) := by
  obtain ⟨sites, h⟩ := outcome_timeout_eq s n t
  rw [h]
  exact quietens_of_frame rfl rfl rfl

/-! ## One expiry -/

/-- The completion or expiry of an element, as its row takes it. -/
def expiry (s : State) (n : Site) : TickElement → State
  | .debounce => s.establish n
  | .keyWait => s.keyWaitExpired n
  | .dwell => s.dwellExpired n
  | .watchdog => s.watchdogExpired n
  | .lane =>
    match s.lanes[n].state with
    | .outbound => s.responseExpired n
    | .quarantine => s.quietExpired n
    | .idle | .held => s

/-- `v` has `n`'s element `e` off its limit, and no other element newly at one. -/
structure Settles (u : State) (n : Site) (e : TickElement) (v : State) : Prop where
  quietens : Quietens u v
  here : reachedAt v n e = false

theorem Settles.trans {e : TickElement} {w : State} (h : Settles u n e v) (h' : Quietens v w) : Settles u n e w :=
  ⟨h.quietens.trans h', h'.not_reached h.here⟩

theorem settles_establish (s : State) (n : Site) : Settles s n .debounce (s.establish n) := by
  have hcontact : Settles s n .debounce (s.setTimers n { s.timers[n] with debouncer := .established }) := by
    refine ⟨quietens_setTimers nofun id id id, ?_⟩
    rw [reachedAt, State.setTimers_timers, perSite_set_self]
    rfl
  exact hcontact.trans (quietens_of_frame rfl rfl rfl)

theorem settles_stopKeyWait (s : State) (n : Site) : Settles s n .keyWait (s.stopKeyWait n) := by
  refine ⟨quietens_stopKeyWait s n, ?_⟩
  rw [reachedAt, State.stopKeyWait, State.setTimers_timers, perSite_set_self]
  rfl

theorem settles_stopBurnTimers_dwell (s : State) (n : Site) : Settles s n .dwell (s.stopBurnTimers n) := by
  refine ⟨quietens_stopBurnTimers s n, ?_⟩
  rw [reachedAt, State.stopBurnTimers, State.setTimers_timers, perSite_set_self]
  rfl

theorem settles_stopBurnTimers_watchdog (s : State) (n : Site) : Settles s n .watchdog (s.stopBurnTimers n) := by
  refine ⟨quietens_stopBurnTimers s n, ?_⟩
  rw [reachedAt, State.stopBurnTimers, State.setTimers_timers, perSite_set_self]
  rfl

theorem settles_setLane (s : State) (n : Site) {l : Lane} (h : l.timer.reached = false) :
    Settles s n .lane (s.setLane n l) :=
  ⟨quietens_setLane h, reachedAt_setLane_lane s n h⟩

theorem Paced.settles_keyWaitExpired (h : Paced s) (n : Site) : Settles s n .keyWait (s.keyWaitExpired n) := by
  refine (settles_stopKeyWait s n).trans ?_
  unfold State.keyWaitExpired
  extract_lets s1 s2
  have h2 : Quietens s1 s2 := quietens_of_frame rfl rfl rfl
  split
  · split
    · exact (h2.trans (Quietens.trans (v := s2.blank n) (quietens_of_frame rfl rfl rfl)
        (quietens_forward (s := s2.blank n) h.response _ _))).trans (quietens_finish _)
    · exact (h2.trans (Quietens.trans (v := s2.releaseRes.answer n .refused) (quietens_of_frame rfl rfl rfl)
        (quietens_setLane rfl))).trans (quietens_finish _)
  · exact Quietens.refl s1

theorem Paced.settles_dwellExpired (h : Paced s) (n : Site) : Settles s n .dwell (s.dwellExpired n) := by
  have hstopped : Paced (s.stopBurnTimers n) := ⟨h.response, h.dwell, h.lane⟩
  exact (settles_stopBurnTimers_dwell s n).trans ((hstopped.quietens_endStaging n _ _ _).trans (quietens_finish _))

theorem settles_watchdogExpired (s : State) (n : Site) : Settles s n .watchdog (s.watchdogExpired n) :=
  (settles_stopBurnTimers_watchdog s n).trans ((quietens_spoil _ _ _ _).trans (quietens_finish _))

theorem Paced.settles_responseExpired (h : Paced s) (hrunning : s.lanes[n].timer.isRunning = true) :
    Settles s n .lane (s.responseExpired n) := by
  unfold State.responseExpired
  extract_lets s1 s2
  have h1 : Quietens s s1 := quietens_of_frame rfl rfl rfl
  have h2 : Quietens s1 s2 := by
    unfold s2
    split
    · split
      · exact quietens_outcome_timeout _ _ _
      · exact Quietens.refl s1
    · exact Quietens.refl s1
  have hlane := settles_setLane s2 n (l := ⟨.quarantine, .running 0 s.lanes[n].timer.limit, none⟩)
    (reached_start (h.lane n hrunning))
  exact ⟨(h1.trans h2).trans hlane.quietens, hlane.here⟩

/-- The timer of a lane runs where a transaction is in flight or quarantined (R2). -/
theorem lane_of_reached (hlane : s.lanes[n].Ok) (h : s.lanes[n].timer.reached = true) :
    s.lanes[n].state = .outbound ∨ s.lanes[n].state = .quarantine := by
  obtain ⟨-, hruns, -⟩ := hlane
  exact hruns.1 (isRunning_of_reached h)

/-- Every expiry settles its element. -/
theorem Paced.settles_expiry (h : Paced s) (hlane : s.lanes[n].Ok) {e : TickElement} (he : reachedAt s n e = true) :
    Settles s n e (expiry s n e) := by
  cases e with
  | debounce => exact settles_establish s n
  | keyWait => exact h.settles_keyWaitExpired n
  | dwell => exact h.settles_dwellExpired n
  | watchdog => exact settles_watchdogExpired s n
  | lane =>
    unfold expiry
    rcases lane_of_reached hlane he with hstate | hstate <;> rw [hstate]
    · exact h.settles_responseExpired (isRunning_of_reached he)
    · exact settles_setLane s n rfl

/-! ## The tick as a walk over the elements -/

/-- What a tick does about an element it may have brought to its limit. -/
def expireWhere (s : State) (p : Site × TickElement) : State := if reachedAt s p.1 p.2 then expiry s p.1 p.2 else s

/-- The elements of a site in the order in which a tick takes them. -/
def tickElements : List TickElement := [.debounce, .keyWait, .dwell, .watchdog, .lane]

/-- Every element in the order in which a tick takes them (assumption log 26). -/
def tickOrder : List (Site × TickElement) := (List.finRange 8).flatMap fun n => tickElements.map fun e => (n, e)

theorem mem_tickOrder (n : Site) (e : TickElement) : (n, e) ∈ tickOrder :=
  List.mem_flatMap.2 ⟨n, List.mem_finRange n, List.mem_map.2 ⟨e, by cases e <;> decide, rfl⟩⟩

theorem expireAt_eq (s : State) (n : Site) : s.expireAt n = (tickElements.map fun e => (n, e)).foldl expireWhere s := rfl

theorem exec_tick_eq (s : State) : exec .tick s = .next (tickOrder.foldl expireWhere s.countTick) := by
  have hfold : tickOrder.foldl expireWhere s.countTick = (List.finRange 8).foldl State.expireAt s.countTick := by
    rw [tickOrder, List.foldl_flatMap]
    rfl
  rw [hfold]
  rfl

theorem foldl_expireWhere_quiet (h : ∀ m e, reachedAt s m e = false) (elements : List (Site × TickElement)) :
    elements.foldl expireWhere s = s := by
  induction elements with
  | nil => rfl
  | cons p elements ih =>
    have hhead : expireWhere s p = s := if_neg (by rw [h]; exact Bool.false_ne_true)
    rw [List.foldl_cons, hhead, ih]

/-- Where a single element stands at its limit and its expiry settles it, the walk is that expiry. -/
theorem foldl_expireWhere_single {e : TickElement} (hreached : reachedAt s n e = true)
    (hothers : ∀ m k, m ≠ n ∨ k ≠ e → reachedAt s m k = false)
    (hafter : ∀ m k, reachedAt (expiry s n e) m k = false) {elements : List (Site × TickElement)}
    (hmem : (n, e) ∈ elements) : elements.foldl expireWhere s = expiry s n e := by
  induction elements with
  | nil => cases hmem
  | cons p elements ih =>
    rw [List.foldl_cons]
    by_cases hp : p = (n, e)
    · have hhead : expireWhere s p = expiry s n e := by
        rw [hp]
        exact if_pos hreached
      rw [hhead, foldl_expireWhere_quiet hafter]
    · have hapart : p.1 ≠ n ∨ p.2 ≠ e := by
        by_contra hboth
        rw [not_or, not_not, not_not] at hboth
        exact hp (Prod.ext hboth.1 hboth.2)
      have hhead : expireWhere s p = s := if_neg (by rw [hothers _ _ hapart]; exact Bool.false_ne_true)
      rw [hhead, ih ((List.mem_cons.1 hmem).resolve_left (Ne.symm hp))]

/-! ## The rows (assumption log 3) -/

theorem exec_contactDebounceComplete_last (h : s.timers[n].debouncer.count.reached s.debounce = true) :
    exec (.contactDebounceComplete n) s = .next (s.establish n) :=
  congrArg _ (if_pos h)

/-- The row of an element that a tick brings to its limit is the element's expiry on the counted state. -/
theorem exec_expiryRow (hlane : s.countTick.lanes[n].Ok) {e : TickElement} (he : reachedAt s.countTick n e = true) :
    exec (s.expiryRow n e) s.countTick = .next (expiry s.countTick n e) := by
  cases e with
  | debounce => exact exec_contactDebounceComplete_last (count_reached_of_reached he)
  | keyWait => exact exec_keyWaitExpiry_last (lastTick_of_reached he)
  | dwell => exact exec_dwellExpiry_last (lastTick_of_reached he)
  | watchdog => exact exec_programWatchdogExpiry_last (lastTick_of_reached he)
  | lane =>
    have hlast := lastTick_of_reached he
    have hsame : s.countTick.lanes[n].state = s.lanes[n].state := by rw [State.countTick_lane]
    unfold State.expiryRow expiry
    rcases lane_of_reached hlane he with hstate | hstate <;> rw [← hsame, hstate]
    · exact exec_responseTimerExpiry_last hstate hlast
    · exact exec_quietTimerExpiry_last hstate hlast

/-- Settles O27: the tick is a walk over the elements of the counted state. It does nothing where none stands at its
limit, and one expiry where one does, which leaves none there: the timers it starts have limits of at least 1. -/
theorem tickCountsAndExpiries : Obligations.TickCountsAndExpiries := by
  refine ⟨⟨rfl, fun _ _ => rfl, rfl, fun _ => rfl, rfl⟩, fun s n => ⟨count_reached_iff _ _, lastTick_iff _, lastTick_iff _,
    lastTick_iff _, lastTick_iff _⟩, ?_⟩
  intro s counted
  have hcounted : counted = s.countTick := rfl
  rw [hcounted, exec_tick_eq]
  refine ⟨fun hnone => ?_, fun n e hcoherent himage hreached hothers => ?_⟩
  · rw [foldl_expireWhere_quiet fun m e => (reachedAt_countTick s m e).trans (hnone m e)]
  · have hbounded : Bounded False True s := bounded_of_coherent hcoherent False.elim fun _ => himage
    have hlane : s.countTick.lanes[n].Ok := ((sitesFit_of_coherent hcoherent).countTick n).lane
    have hhere : reachedAt s.countTick n e = true := (reachedAt_countTick s n e).trans hreached
    have hapart : ∀ m k, m ≠ n ∨ k ≠ e → reachedAt s.countTick m k = false :=
      fun m k hmk => (reachedAt_countTick s m k).trans (hothers m k hmk)
    have hsettles := (paced_of_bounded hbounded.countTick).settles_expiry hlane hhere
    have hafter : ∀ m k, reachedAt (expiry s.countTick n e) m k = false := by
      intro m k
      by_cases hmk : m = n ∧ k = e
      · obtain ⟨rfl, rfl⟩ := hmk
        exact hsettles.here
      · exact hsettles.quietens.not_reached (hapart m k (by rwa [← not_and_or]))
    rw [foldl_expireWhere_single hhere hapart hafter (mem_tickOrder n e), exec_expiryRow hlane hhere]

end Sys2Proof.Machine.TickExpiries
end
